-- ==== Sys2Proof/Word.lean ====
section
/-! DEFINITION. The word types of the unit and the four-fold pack of its per-roller and per-group records. -/

namespace Sys2Proof

/-- One byte of a telegram. -/
abbrev Byte := BitVec 8

/-- One image field, one data word of a service request, one word a READ returns: 32 bits (R117, R143). -/
abbrev Word := BitVec 32

/-- A sequence number or a check word: 16 bits (R117, R119). -/
abbrev Half := BitVec 16

/-- The number of a roller channel, of a coupling group or of a slot position: 0 to 3 (section 3.4 of the introduction). -/
abbrev Chan := Fin 4

/-- Four like records, one per roller channel or one per group. -/
structure Quad (α : Type) where
  /-- record 0 -/
  c0 : α
  /-- record 1 -/
  c1 : α
  /-- record 2 -/
  c2 : α
  /-- record 3 -/
  c3 : α
  deriving DecidableEq, Repr

/-- Record `i` of the four. -/
def Quad.get {α : Type} (q : Quad α) : Chan → α
  | 0 => q.c0
  | 1 => q.c1
  | 2 => q.c2
  | 3 => q.c3

/-- The four records given one by one. -/
def Quad.ofFn {α : Type} (f : Chan → α) : Quad α := ⟨f 0, f 1, f 2, f 3⟩

/-- The same record four times. -/
def Quad.all {α : Type} (x : α) : Quad α := ⟨x, x, x, x⟩

/-- The four records with record `i` replaced. -/
def Quad.set {α : Type} (q : Quad α) (i : Chan) (x : α) : Quad α :=
  Quad.ofFn fun j => if j = i then x else q.get j

/-- The four records as a list, record 0 first. -/
def Quad.toList {α : Type} (q : Quad α) : List α := [q.c0, q.c1, q.c2, q.c3]

/-- The four channel, group or slot numbers in rising order. -/
def channels : List Chan := [0, 1, 2, 3]

end Sys2Proof
end

