-- ==== Sys2Proof/Syntax.lean ====
section
/-! DEFINITION. The commands the unit takes: one constructor per row of the table of operations and events. -/

namespace Sys2Proof

/-- A service request area without its destination and kind: tag, object, index, count and the eight data words (R117, R160). -/
structure RequestArea where
  /-- tag, chosen by the cell controller -/
  tag : Byte
  /-- code of the object addressed -/
  object : Byte
  /-- index field -/
  index : Half
  /-- count field -/
  count : Byte
  /-- data words 0 to 7 -/
  data : List Word
  deriving DecidableEq, Repr

/-- What can happen at the ports, the discrete lines, the stores and the deadline while a computation runs. -/
inductive Event where
  /-- the ESTOP input is asserted -/
  | estopAssert
  /-- the ESTOP input is released -/
  | estopRelease
  /-- the SETUP input changes to `active` -/
  | setupChange (active : Bool)
  /-- the reception of `bytes` completes at the Cell port -/
  | demandReception (bytes : List Byte)
  /-- the Drive port completes sending a telegram -/
  | demandSent
  /-- the reception of `bytes` completes at the Drive port -/
  | feedbackReception (bytes : List Byte)
  /-- the Cell port completes sending a telegram -/
  | feedbackSent
  /-- the deadline's moment comes -/
  | deadlineExpiry
  /-- the check of Staging ends -/
  | commitCheckEnd
  /-- the calibration store write ends -/
  | calibrationWriteEnd
  deriving DecidableEq, Repr

/-- An event during the computation that a command runs (R104, R133, R140, R161; log entry 3). -/
structure MidEvent where
  /-- how many stages have finished when the event is taken: 0 to 6, and 7 to 13 in a second computation -/
  point : Nat
  /-- microseconds since the last event -/
  elapsed : Nat
  /-- the event -/
  event : Event
  deriving DecidableEq, Repr

/-- The course of the computation that a command runs. -/
structure Course where
  /-- microseconds from its last moment to the start of the transmission it leads to (log entry 2) -/
  latency : Nat
  /-- the events that come while it runs (log entry 3) -/
  during : List MidEvent
  deriving DecidableEq, Repr

/-- The Demand that brings a group function, with its times (R117, R123; log entry 6). -/
structure Carrier where
  /-- tag of the GROUP_CONTROL request -/
  tag : Byte
  /-- microseconds since the last timed command -/
  elapsed : Nat
  /-- sequence field -/
  sequence : Half
  /-- the four slots, twelve bytes -/
  slots : List Byte
  /-- the course of its computation -/
  course : Course
  deriving DecidableEq, Repr

/-- The commands: what the cell controller, the drives, the discrete lines, the supply and time do to the unit.
`elapsed` is the time in microseconds since the last timed command (log entry 2), and `course` that of the computation the
command runs. -/
inductive Instr where
  /-- POWER_ON: power comes on. -/
  | powerOn
  /-- RESET_INPUT_ASSERT: the RESET input is asserted. -/
  | resetInputAssert
  /-- RESET_INPUT_RELEASE: the RESET input is released. -/
  | resetInputRelease
  /-- ESTOP_ASSERT: the ESTOP input is asserted. -/
  | estopAssert
  /-- ESTOP_RELEASE: the ESTOP input is released. -/
  | estopRelease
  /-- SETUP_CHANGE: the SETUP input changes to `active`. -/
  | setupChange (active : Bool)
  /-- DEMAND_RECEPTION: the reception of `bytes` completes at the Cell port. -/
  | demandReception (elapsed : Nat) (course : Course) (bytes : List Byte)
  /-- DEADLINE_EXPIRY: the deadline's moment comes. -/
  | deadlineExpiry
  /-- SUBSTITUTE_EXPIRY: the next substitute expiry's moment comes. -/
  | substituteExpiry (course : Course)
  /-- DEMAND_SENT: the Drive port completes sending a telegram. -/
  | demandSent (elapsed : Nat) (course : Course)
  /-- FEEDBACK_RECEPTION: the reception of `bytes` completes at the Drive port. -/
  | feedbackReception (elapsed : Nat) (bytes : List Byte)
  /-- FEEDBACK_SENT: the Cell port completes sending a telegram. -/
  | feedbackSent (elapsed : Nat)
  /-- COMMIT_CHECK_END: the check of Staging ends. -/
  | commitCheckEnd
  /-- CALIBRATION_WRITE_END: the calibration store write ends. -/
  | calibrationWriteEnd
  /-- READ request (kind 1). -/
  | read (area : RequestArea)
  /-- OPEN_TRANSFER request (kind 2). -/
  | openTransfer (area : RequestArea)
  /-- TRANSFER_DATA request (kind 3). -/
  | transferData (area : RequestArea)
  /-- CLOSE_TRANSFER request (kind 4). -/
  | closeTransfer (area : RequestArea)
  /-- COMMIT request (kind 5). -/
  | commit (area : RequestArea)
  /-- LIVE_WRITE request (kind 6). -/
  | liveWrite (area : RequestArea)
  /-- SET_LIVE_WINDOW request (kind 7). -/
  | setLiveWindow (area : RequestArea)
  /-- STORE_CALIBRATION request (kind 9). -/
  | storeCalibration (area : RequestArea)
  /-- RESTART request (kind 10). -/
  | restart (area : RequestArea)
  /-- DESCRIBE request (kind 11). -/
  | describe (area : RequestArea)
  /-- A request of a kind the unit does not know (kind 0 or above 11). -/
  | unknownKind (kind : Byte) (area : RequestArea)
  /-- ENGAGE for one group, as the only function of the GROUP_CONTROL request of a Demand. -/
  | engage (group : Chan) (carrier : Carrier)
  /-- RELEASE for one group, as the only function of the GROUP_CONTROL request of a Demand. -/
  | release (group : Chan) (carrier : Carrier)
  /-- CLEAR for one group, as the only function of the GROUP_CONTROL request of a Demand. -/
  | clear (group : Chan) (carrier : Carrier)
  /-- CLEAR_PART, as the only function of the GROUP_CONTROL request of a Demand. -/
  | clearPart (carrier : Carrier)
  /-- CAPTURE, as the only function of the GROUP_CONTROL request of a Demand. -/
  | capture (carrier : Carrier)
  /-- REARM, as the only function of the GROUP_CONTROL request of a Demand. -/
  | rearm (carrier : Carrier)
  /-- CLEAR_RESTART, as the only function of the GROUP_CONTROL request of a Demand. -/
  | clearRestart (carrier : Carrier)
  /-- POWER_FAILURE: the supply is lost. -/
  | powerFailure
  /-- GROUP_CONTROL request (kind 8). -/
  | groupControl (area : RequestArea)
  deriving DecidableEq, Repr

end Sys2Proof
end

