-- ==== Sys2Proof/Decode.lean ====
section
/-! DEFINITION. Decoding of table words. No row of the table of operations and events gives bits. -/

namespace Sys2Proof

/-- The command a table word spells. The rows are events and requests and the table gives none of them any bits,
so no word spells a command. The encodings the spec does give, those of the telegrams and of the request area
(R117, R118, R162), are read where a telegram is received. -/
def decodeTableWord (_nbits _w : Nat) : Option Instr := none

end Sys2Proof
end

