-- ==== Sys2Proof/Config.lean ====
section
/-! DEFINITION. What the unit fixes once (lengths and capacities) and the values the spec leaves open (opaque). -/

namespace Sys2Proof

/-- Length of a Demand telegram in bytes (R117). -/
def Config.demandLength : Nat := 57

/-- Length of a Feedback telegram in bytes (R118). -/
def Config.feedbackLength : Nat := 114

/-- Capacity of the Service queue (R160). -/
def Config.queueCapacity : Nat := 4

/-- Capacity of the history ring (R107). -/
def Config.ringCapacity : Nat := 64

/-- Number of image fields (R143). -/
def Config.fieldCount : Nat := 254

/-- The computation, counted from a COMMIT's acceptance, before whose start the check has ended (R154). -/
def Config.checkCycles : Nat := 8

/-- Free value: which arrangement of several reports of one stage arrives, for the draw number given. R96 says
that they may be taken in either order. Log entry 7. -/
opaque Config.reportOrder : Nat → Nat

/-- Free value: the store count a write takes when the stored count stands at 4,294,967,295, for the draw number
given. R158 gives the range of the count and states no successor of its last value. Log entry 8. -/
opaque Config.countPastMax : Nat → Word

end Sys2Proof
end

