-- ==== Sys2Proof/Machine/Numbers.lean ====
section
/-! DEFINITION. Exact arithmetic with its final rounding, clamping and stepping (R1), byte order and the CRC-16. -/

namespace Sys2Proof.Machine

/-- *Rounded* quotient of R1: `n / d` to the nearest integer, ties away from zero, for `d > 0`. -/
def roundDiv (n d : Int) : Int :=
  if n < 0 then -((2 * -n + d) / (2 * d)) else (2 * n + d) / (2 * d)

/-- *Truncated toward zero* of R1. -/
def truncDiv (n d : Int) : Int := Int.tdiv n d

/-- *Clamped to a range* of R1: `x` replaced by the nearer bound when it lies outside `lo` to `hi`. -/
def clamp (lo hi x : Int) : Int := if x < lo then lo else if hi < x then hi else x

/-- *Modulo 2^32, read as signed* of R1. -/
def signedDiff (a b : Word) : Int := (a - b).toInt

/-- `x` moved toward `target` by `step`, stopping at it: the step of R71 and R73. -/
def moveToward (step target x : Int) : Int :=
  if |target - x| ≤ step then target else if x < target then x + step else x - step

/-- One step of the release ramp of R49: magnitude less `step`, keeping the sign, or 0. -/
def rampStep (step x : Int) : Int :=
  if |x| ≤ step then 0 else if 0 < x then x - step else x + step

/-- A counter increased by one, stopping at `top`. -/
def satInc (top n : Nat) : Nat := if n < top then n + 1 else top

/-- Two's complement of an integer in 32 bits, as READ gives signed quantities (R164). -/
def word (x : Int) : Word := BitVec.ofInt 32 x

/-- A count in 32 bits. -/
def wordOfNat (n : Nat) : Word := BitVec.ofNat 32 n

/-- A flag as READ gives it: 1 for set or present, 0 otherwise (R164). -/
def wordOfBool (b : Bool) : Word := if b then 1 else 0

/-- The two bytes of a 16-bit field, most significant first (section 3.5 of the introduction). -/
def bytesOfHalf (h : Half) : List Byte := [(h >>> 8).setWidth 8, h.setWidth 8]

/-- The four bytes of a 32-bit field, most significant first. -/
def bytesOfWord (w : Word) : List Byte :=
  [(w >>> 24).setWidth 8, (w >>> 16).setWidth 8, (w >>> 8).setWidth 8, w.setWidth 8]

/-- Byte `i` of a telegram. -/
def byteAt (bytes : List Byte) (i : Nat) : Byte := bytes.getD i 0

/-- The 16-bit field at byte `i`, most significant byte first. -/
def halfAt (bytes : List Byte) (i : Nat) : Half :=
  ((byteAt bytes i).setWidth 16 <<< 8) ||| (byteAt bytes (i + 1)).setWidth 16

/-- The 32-bit field at byte `i`, most significant byte first. -/
def wordAt (bytes : List Byte) (i : Nat) : Word :=
  ((halfAt bytes i).setWidth 32 <<< 16) ||| (halfAt bytes (i + 2)).setWidth 32

/-- One bit step of the CRC-16 with generator x^16 + x^12 + x^5 + 1, most significant bit first. -/
def crcBit (c : Half) : Half := if c.msb then (c <<< 1) ^^^ 0x1021 else c <<< 1

/-- One byte of the CRC-16. -/
def crcByte (c : Half) (b : Byte) : Half :=
  crcBit (crcBit (crcBit (crcBit (crcBit (crcBit (crcBit (crcBit (c ^^^ (b.setWidth 16 <<< 8)))))))))

/-- The CRC-16 of the introduction, section 3.5: initial value all ones, no final inversion (R119). -/
def crc16 (bytes : List Byte) : Half := bytes.foldl crcByte 0xFFFF

/-- The bytes of a run of 32-bit fields, as they enter a CRC (section 3.5 of the introduction). -/
def bytesOfWords (ws : List Word) : List Byte := ws.flatMap bytesOfWord

/-- `xs` in the arrangement numbered `seed`: every arrangement has a number. Used with a free `seed` only. -/
def arrange {α : Type} (seed : Nat) : List α → List α
  | [] => []
  | x :: xs => (arrange (seed / (xs.length + 1)) xs).insertIdx (seed % (xs.length + 1)) x

end Sys2Proof.Machine
end

