-- ==== Sys2Proof/Machine/Image.lean ====
section
/-! DEFINITION. The 254 configuration fields: layout, classes, defaults and validation (R143 to R147, R2). -/

namespace Sys2Proof.Machine

/-- An image: fields 0 to 253, each a 32-bit value (R143). -/
abbrev Image := Vector Word 254

/-- Field `i` of an image. -/
def Image.field (img : Image) (i : Nat) : Word := img.toList.getD i 0

/-- The image with field `i` replaced; an index past 253 names no field. -/
def Image.put (img : Image) (i : Nat) (w : Word) : Image := img.setIfInBounds i w

/-! ### Cycle Setup, fields 0 to 9 (R144) -/

/-- Period code, field 0. -/
def Image.periodCode (img : Image) : Nat := (img.field 0).toNat

/-- Nominal link period in microseconds (R2). -/
def Image.period (img : Image) : Nat :=
  match img.periodCode with
  | 0 => 250
  | 1 => 500
  | 2 => 1000
  | _ => 2000

/-- Speed scale factor K_T (R2). -/
def Image.speedScale (img : Image) : Int :=
  match img.periodCode with
  | 0 => 64
  | 1 => 32
  | 2 => 16
  | _ => 8

/-- Link timeout in periods, field 1. -/
def Image.linkTimeout (img : Image) : Nat := (img.field 1).toNat

/-- Slot position of a channel, fields 2 to 5. -/
def Image.slotOf (img : Image) (r : Chan) : Nat := (img.field (2 + r.val)).toNat

/-- Safe Step, field 6. -/
def Image.safeStep (img : Image) : Int := (img.field 6).toNat

/-- Nsat, the low part of field 7. -/
def Image.nsat (img : Image) : Nat := (img.field 7).toNat % 256

/-- Post-trigger count, the high part of field 7. -/
def Image.postTrigger (img : Image) : Nat := (img.field 7).toNat / 256

/-- Whether the kind of code `n` is in the Line Sources set, field 8. -/
def Image.lineSource (img : Image) (n : Nat) : Bool := (img.field 8).getLsbD (n - 1)

/-- History trigger level, field 9. -/
def Image.triggerLevel (img : Image) : Nat := (img.field 9).toNat

/-! ### Roller records, fields 10 + 15k + offset (R144) -/

/-- A field of channel `r`'s roller record. -/
def Image.roller (img : Image) (r : Chan) (offset : Nat) : Word := img.field (10 + 15 * r.val + offset)

/-- The group of a roller, where its group field names one (R20). -/
def Image.groupOf (img : Image) (r : Chan) : Option Chan :=
  if h : (img.roller r 0).toNat < 4 then some ⟨(img.roller r 0).toNat, h⟩ else none

/-- Whether roller `r` is a member of group `g` (R20). -/
def Image.isMember (img : Image) (g r : Chan) : Bool := img.groupOf r == some g

/-- The members of group `g`, in channel order (R20). -/
def Image.members (img : Image) (g : Chan) : List Chan := channels.filter (img.isMember g)

/-- A coupling group has two to four members (R20). -/
def Image.isCouplingGroup (img : Image) (g : Chan) : Bool := decide (2 ≤ (img.members g).length)

/-- Weight w. -/
def Image.weight (img : Image) (r : Chan) : Int := (img.roller r 1).toNat

/-- Fixed ratio. -/
def Image.fixedRatio (img : Image) (r : Chan) : Int := (img.roller r 2).toNat

/-- Curve reference. -/
def Image.curveRef (img : Image) (r : Chan) : Nat := (img.roller r 3).toNat

/-- Direction invert. -/
def Image.invert (img : Image) (r : Chan) : Bool := (img.roller r 4).toNat == 1

/-- Pitch P. -/
def Image.pitch (img : Image) (r : Chan) : Nat := (img.roller r 5).toNat

/-- A roller is configured when its pitch is not 0 (R17, R19). -/
def Image.configured (img : Image) (r : Chan) : Bool := decide (0 < img.pitch r)

/-- Tmin, signed. -/
def Image.tmin (img : Image) (r : Chan) : Int := (img.roller r 6).toInt

/-- Tmax, signed. -/
def Image.tmax (img : Image) (r : Chan) : Int := (img.roller r 7).toInt

/-- Clear torque, signed. -/
def Image.clearTorque (img : Image) (r : Chan) : Int := (img.roller r 8).toInt

/-- Gain trim G, signed. -/
def Image.gain (img : Image) (r : Chan) : Int := (img.roller r 9).toInt

/-- Offset O, signed. -/
def Image.offset (img : Image) (r : Chan) : Int := (img.roller r 10).toInt

/-- Qlim. -/
def Image.qlim (img : Image) (r : Chan) : Nat := (img.roller r 11).toNat

/-- Slew S. -/
def Image.slew (img : Image) (r : Chan) : Int := (img.roller r 12).toNat

/-- Vmax. -/
def Image.vmax (img : Image) (r : Chan) : Int := (img.roller r 13).toNat

/-- Stale limit. -/
def Image.staleLimit (img : Image) (r : Chan) : Nat := (img.roller r 14).toNat

/-! ### Group records, fields 70 + 10g + offset (R144) -/

/-- A field of group `g`'s record. -/
def Image.group (img : Image) (g : Chan) (offset : Nat) : Word := img.field (70 + 10 * g.val + offset)

/-- Kp. -/
def Image.kp (img : Image) (g : Chan) : Int := (img.group g 0).toNat

/-- Ki. -/
def Image.ki (img : Image) (g : Chan) : Int := (img.group g 1).toNat

/-- Alim. -/
def Image.alim (img : Image) (g : Chan) : Int := (img.group g 2).toNat

/-- Engage cycles E. -/
def Image.engageCycles (img : Image) (g : Chan) : Nat := (img.group g 3).toNat

/-- Release step. -/
def Image.releaseStep (img : Image) (g : Chan) : Int := (img.group g 4).toNat

/-- W1. -/
def Image.w1 (img : Image) (g : Chan) : Int := (img.group g 5).toNat

/-- W2. -/
def Image.w2 (img : Image) (g : Chan) : Int := (img.group g 6).toNat

/-- Afault. -/
def Image.afault (img : Image) (g : Chan) : Int := (img.group g 7).toNat

/-- Block length M selected by the monitor average code; 0 for a code outside 0 to 2 (R79, R165). -/
def Image.blockLength (img : Image) (g : Chan) : Nat :=
  match (img.group g 8).toNat with
  | 0 => 1
  | 1 => 4
  | 2 => 16
  | _ => 0

/-- Persistence. -/
def Image.persistence (img : Image) (g : Chan) : Nat := (img.group g 9).toNat

/-! ### Ratio curves, fields 110 + 33(c - 1) + offset (R144) -/

/-- Number of breakpoints m of curve `c`, 1 to 4. -/
def Image.curveCount (img : Image) (c : Nat) : Nat := (img.field (110 + 33 * (c - 1))).toNat

/-- Breakpoint speed x_j of curve `c`, signed. -/
def Image.curveSpeed (img : Image) (c j : Nat) : Int := (img.field (110 + 33 * (c - 1) + 1 + j)).toInt

/-- Breakpoint ratio r_j of curve `c`. -/
def Image.curveRatio (img : Image) (c j : Nat) : Int := (img.field (110 + 33 * (c - 1) + 17 + j)).toNat

/-! ### Reaction table, fields 242 to 253 (R91) -/

/-- The number in the configured level field of the kind of code `n`. -/
def Image.reactionLevel (img : Image) (n : Nat) : Nat := (img.field (241 + n)).toNat

/-! ### Classes (R145) -/

/-- Maintenance fields: period code, slot map, and offsets 4 to 10 and 13 of each roller record. -/
def isMaintenance (i : Nat) : Bool :=
  i == 0 || (2 ≤ i && i ≤ 5) ||
    (10 ≤ i && i < 70 && ((4 ≤ (i - 10) % 15 && (i - 10) % 15 ≤ 10) || (i - 10) % 15 == 13))

/-- Live fields: Line Sources, history trigger level, and per group Kp, Ki, W1, W2, Afault, persistence. -/
def isLive (i : Nat) : Bool :=
  i == 8 || i == 9 ||
    (70 ≤ i && i < 110 &&
      ((i - 70) % 10 == 0 || (i - 70) % 10 == 1 || (i - 70) % 10 == 5 || (i - 70) % 10 == 6 ||
        (i - 70) % 10 == 7 || (i - 70) % 10 == 9))

/-- The 37 maintenance fields in index order (R145, R158). -/
def maintenanceFields : List Nat := (List.range 254).filter isMaintenance

/-- Whether two images differ in a maintenance field (R153). -/
def maintenanceDiffers (x y : Image) : Bool := maintenanceFields.any fun i => x.field i != y.field i

/-! ### Defaults (R144, R146) -/

/-- Default of a roller record's field. -/
def rollerDefault (k offset : Nat) : Word :=
  match offset with
  | 0 => wordOfNat k
  | 1 => 1
  | 2 => 65536
  | 13 => 2000000
  | 14 => 3
  | _ => 0

/-- Default of a group record's field. -/
def groupDefault (offset : Nat) : Word :=
  match offset with
  | 2 => 1000000
  | 3 => 500
  | 4 => 8
  | 5 => 1600
  | 6 => 3200
  | 7 => 1000000
  | 8 => 1
  | 9 => 10
  | _ => 0

/-- Default, Min and Max columns of R90 for the kind of code `n`. -/
def reactionBounds (n : Nat) : Nat × Nat × Nat :=
  match n with
  | 1 => (4, 4, 4)
  | 2 => (4, 4, 4)
  | 3 => (1, 0, 4)
  | 4 => (1, 0, 4)
  | 5 => (2, 2, 4)
  | 6 => (1, 0, 4)
  | 7 => (3, 2, 4)
  | 8 => (3, 3, 4)
  | 9 => (1, 0, 4)
  | 10 => (3, 3, 4)
  | 11 => (3, 3, 4)
  | _ => (1, 0, 4)

/-- Default of the Cycle Setup field `i`, 0 to 9. -/
def setupDefault (i : Nat) : Word :=
  match i with
  | 0 => 2
  | 1 => 4
  | 2 => 0
  | 3 => 1
  | 4 => 2
  | 5 => 3
  | 6 => 40
  | 7 => 4146
  | 8 => 4095
  | _ => 3

/-- Default of field `i` (R144). -/
def fieldDefault (i : Nat) : Word :=
  if i < 10 then setupDefault i
  else if i < 70 then rollerDefault ((i - 10) / 15) ((i - 10) % 15)
  else if i < 110 then groupDefault ((i - 70) % 10)
  else if i < 242 then 0
  else wordOfNat (reactionBounds (i - 241)).1

/-- The default image: every field at its default (R144, R146). -/
def defaultImage : Image := ⟨⟨(List.range 254).map fieldDefault⟩, by simp⟩

/-! ### Validation (R147) -/

/-- Whether a field's unsigned value lies within bounds. -/
def within (w : Word) (lo hi : Nat) : Bool := decide (lo ≤ w.toNat) && decide (w.toNat ≤ hi)

/-- Whether a field's signed value lies within the 16-bit torque range. -/
def withinTorque (w : Word) : Bool := decide (-32768 ≤ w.toInt) && decide (w.toInt ≤ 32767)

/-- Whether a check attributed to Cycle Setup field `i` fails. -/
def setupFails (img : Image) (i : Nat) : Bool :=
  match i with
  | 0 => !within (img.field 0) 0 3
  | 1 => !within (img.field 1) 2 15
  | 6 => !within (img.field 6) 1 32767
  | 7 => !(decide (1 ≤ img.nsat) && decide (img.postTrigger ≤ 63))
  | 8 => !within (img.field 8) 0 4095
  | 9 => !within (img.field 9) 0 4
  | i => !within (img.field i) 0 3 || (List.range (i - 2)).any fun j => img.field (2 + j) == img.field i

/-- Whether roller `r` belongs to a group with two or more members. -/
def Image.inCouplingGroup (img : Image) (r : Chan) : Bool :=
  match img.groupOf r with
  | some g => img.isCouplingGroup g
  | none => false

/-- Whether a check attributed to a field of roller `r`'s record fails. -/
def rollerFails (img : Image) (r : Chan) (offset : Nat) : Bool :=
  match offset with
  | 0 => !within (img.roller r 0) 0 3
  | 1 => !within (img.roller r 1) 0 255
  | 2 => !within (img.roller r 2) 32768 131072
  | 3 => !within (img.roller r 3) 0 4 ||
      (decide (1 ≤ img.curveRef r) && decide (img.curveRef r ≤ 4) && decide (img.curveCount (img.curveRef r) < 2))
  | 4 => !within (img.roller r 4) 0 1
  | 5 => img.inCouplingGroup r && img.pitch r == 0
  | 6 => !withinTorque (img.roller r 6)
  | 7 => !withinTorque (img.roller r 7) || decide (img.tmax r < img.clearTorque r)
  | 8 => !withinTorque (img.roller r 8) || decide (img.clearTorque r < img.tmin r)
  | 9 => !withinTorque (img.roller r 9)
  | 10 => !withinTorque (img.roller r 10)
  | 11 => !within (img.roller r 11) 0 32767
  | 12 => !within (img.roller r 12) 0 32767
  | 13 => !within (img.roller r 13) 1 4000000
  | _ => !within (img.roller r 14) 1 15

/-- The sum of the weights of a group's members. -/
def Image.weightSum (img : Image) (g : Chan) : Int := ((img.members g).map img.weight).sum

/-- Whether a check attributed to a field of group `g`'s record fails. -/
def groupFails (img : Image) (g : Chan) (offset : Nat) : Bool :=
  img.isCouplingGroup g &&
    match offset with
    | 0 => !within (img.group g 0) 0 65535 || decide (img.weightSum g ≤ 0)
    | 1 => !within (img.group g 1) 0 65535
    | 2 => !within (img.group g 2) 1 (2 ^ 30)
    | 3 => !within (img.group g 3) 1 4096
    | 4 => !within (img.group g 4) 1 32767
    | 5 => !within (img.group g 5) 1 20000000
    | 6 => !within (img.group g 6) 1 20000000 || decide (img.w2 g < img.w1 g)
    | 7 => !within (img.group g 7) 1 (2 ^ 30)
    | 8 => !within (img.group g 8) 0 2
    | _ => !within (img.group g 9) 1 255

/-- Whether a curve's breakpoint count is valid: 0, or 2 to 16. -/
def countValid (m : Nat) : Bool := m == 0 || (decide (2 ≤ m) && decide (m ≤ 16))

/-- Whether a check attributed to a field of curve `c` fails. The relations are not applied while the count fails. -/
def curveFails (img : Image) (c offset : Nat) : Bool :=
  let m := img.curveCount c
  if offset = 0 then !countValid m
  else if offset < 17 then
    countValid m && decide (offset - 1 < m) &&
      (if offset = 1 then decide (img.curveSpeed c 0 < 0)
       else decide (img.curveSpeed c (offset - 1) ≤ img.curveSpeed c (offset - 2)))
  else
    countValid m && decide (offset - 17 < m) &&
      !(decide (32768 ≤ img.curveRatio c (offset - 17)) && decide (img.curveRatio c (offset - 17) ≤ 131072))

/-- Whether the range check of a Reaction table field fails: Min to Max of R90. -/
def reactionFails (img : Image) (n : Nat) : Bool :=
  !within (img.field (241 + n)) (reactionBounds n).2.1 (reactionBounds n).2.2

/-- Whether a check attributed to field `i` fails (R147). -/
def fieldFails (img : Image) (i : Nat) : Bool :=
  if i < 10 then setupFails img i
  else if i < 70 then rollerFails img (Fin.ofNat 4 ((i - 10) / 15)) ((i - 10) % 15)
  else if i < 110 then groupFails img (Fin.ofNat 4 ((i - 70) / 10)) ((i - 70) % 10)
  else if i < 242 then curveFails img ((i - 110) / 33 + 1) ((i - 110) % 33)
  else reactionFails img (i - 241)

/-- Validation of an image as a whole: the lowest index that fails, if any (R147). -/
def validate (img : Image) : Option Nat := (List.range 254).find? (fieldFails img)

/-- The image passes every check of R147. -/
def Image.valid (img : Image) : Bool := (validate img).isNone

/-- The CRC of an image: fields 0 to 253 in index order, four bytes each (R154). -/
def imageCrc (img : Image) : Half := crc16 (bytesOfWords img.toList)

/-! ### Maintenance values of the Calibration store (R146, R158) -/

/-- The 37 maintenance values of an image, in index order. -/
def maintenanceValues (img : Image) : List Word := maintenanceFields.map img.field

/-- The image with its maintenance fields replaced by the values given, in index order. -/
def withMaintenance (img : Image) (values : List Word) : Image :=
  (maintenanceFields.zip values).foldl (fun acc p => acc.put p.1 p.2) img

/-- The contents of the Calibration store as they enter its check word: the fields, then the count (R158). -/
def calibrationCrc (values : List Word) (count : Word) : Half := crc16 (bytesOfWords (values ++ [count]))

/-- Whether the maintenance values are each within their valid values, the slot map is a permutation and
Tmin ≤ Clear ≤ Tmax for each roller (R146). -/
def calibrationValuesValid (values : List Word) : Bool :=
  values.length == 37 && maintenanceFields.all fun i => !fieldFails (withMaintenance defaultImage values) i

end Sys2Proof.Machine
end

