-- ==== Sys2Proof/Machine/Records.lean ====
section
/-! DEFINITION. The records each block keeps, with the values every reset sets them to. -/

namespace Sys2Proof.Machine

/-! ### Named states -/

/-- Reaction levels, rising (section 3.4 of the introduction). -/
inductive Level where
  /-- 0 -/
  | none
  /-- 1 -/
  | note
  /-- 2 -/
  | degrade
  /-- 3 -/
  | hold
  /-- 4 -/
  | safe
  deriving DecidableEq, Repr

/-- The number of a level. -/
def Level.code : Level → Nat
  | .none => 0
  | .note => 1
  | .degrade => 2
  | .hold => 3
  | .safe => 4

/-- The level of a number; 4 and above are SAFE. -/
def Level.ofCode : Nat → Level
  | 0 => .none
  | 1 => .note
  | 2 => .degrade
  | 3 => .hold
  | _ => .safe

/-- The greater of two levels. -/
def Level.max (a b : Level) : Level := if a.code < b.code then b else a

/-- The five states of a coupling group (R41). -/
inductive GroupState where
  | detached
  | engaging
  | coupled
  | releasing
  | suspended
  deriving DecidableEq, Repr

/-- A group that is ENGAGING or COUPLED. -/
def GroupState.couples (st : GroupState) : Bool := st == .engaging || st == .coupled

/-- A group that is DETACHED or SUSPENDED, as a commit needs every group to be (R153). -/
def GroupState.atRest (st : GroupState) : Bool := st == .detached || st == .suspended

/-- Whether and on which side a clamp bit (R42). -/
inductive ClampSide where
  | none
  | upper
  | lower
  deriving DecidableEq, Repr

/-- Substitution phases of a roller (R64). -/
inductive Phase where
  | off
  | ramp
  | atClear
  | return_
  deriving DecidableEq, Repr

/-- States of the History buffer (R107). -/
inductive HistoryState where
  | recording
  | postTrigger
  | frozen
  deriving DecidableEq, Repr

/-- Link states (R132). -/
inductive LinkState where
  | idle
  | up
  | lost
  deriving DecidableEq, Repr

/-- Commit states (R153). -/
inductive CommitState where
  | none
  | checking
  | ready
  deriving DecidableEq, Repr

/-- Progress of the head of the Service queue (R161). -/
inductive Progress where
  | waiting
  | performed
  | answered
  deriving DecidableEq, Repr

/-- Outcomes of a service request (R162). -/
inductive Result where
  | done
  | partial_
  | refusedState
  | refusedBusy
  | refusedProtected
  | refusedRange
  | refusedCheck
  | refusedInvalid
  | unknownKind
  deriving DecidableEq, Repr

/-! ### Fault kinds (R90) -/

/-- The twelve fault kinds. -/
inductive FaultKind where
  | linkLost
  | estop
  | demandCheck
  | feedbackCheck
  | feedbackStale
  | speedImplausible
  | driveFault
  | groupLost
  | syncWarn
  | syncFault
  | positionFault
  | torqueSaturation
  deriving DecidableEq, Repr

/-- The code of a fault kind, 1 to 12. -/
def FaultKind.code : FaultKind → Nat
  | .linkLost => 1
  | .estop => 2
  | .demandCheck => 3
  | .feedbackCheck => 4
  | .feedbackStale => 5
  | .speedImplausible => 6
  | .driveFault => 7
  | .groupLost => 8
  | .syncWarn => 9
  | .syncFault => 10
  | .positionFault => 11
  | .torqueSaturation => 12

/-- What an occurrence of a kind names (R90). -/
inductive ScopeKind where
  | part
  | roller
  | group
  deriving DecidableEq, Repr

/-- The fixed scope of each kind (R90). -/
def FaultKind.scopeKind : FaultKind → ScopeKind
  | .linkLost => .part
  | .estop => .part
  | .demandCheck => .part
  | .feedbackCheck => .part
  | .feedbackStale => .roller
  | .speedImplausible => .roller
  | .driveFault => .roller
  | .groupLost => .group
  | .syncWarn => .roller
  | .syncFault => .roller
  | .positionFault => .roller
  | .torqueSaturation => .roller

/-- A lasting kind has a cause that stays present; a momentary one does not (R90). -/
def FaultKind.lasting : FaultKind → Bool
  | .demandCheck => false
  | .feedbackCheck => false
  | .speedImplausible => false
  | .linkLost => true
  | .estop => true
  | .feedbackStale => true
  | .driveFault => true
  | .groupLost => true
  | .syncWarn => true
  | .syncFault => true
  | .positionFault => true
  | .torqueSaturation => true

/-- A report to the Reaction unit: an occurrence, or the end of a lasting cause, with its kind and scope (R90). -/
inductive Report where
  | occurrence (kind : FaultKind) (scope : Chan)
  | ended (kind : FaultKind) (scope : Chan)
  deriving DecidableEq, Repr

/-- An entry of the Fault store (R93). -/
structure FaultEntry where
  /-- fault kind -/
  kind : FaultKind
  /-- 0 for part-wide; roller channel or group number for the others -/
  scope : Chan
  /-- cycle count of the occurrence that created the entry -/
  first : Word
  /-- cycle count of the latest occurrence -/
  last : Word
  /-- occurrences since creation, 1 to 255 -/
  count : Nat
  /-- whether the cause is present now -/
  causePresent : Bool
  deriving DecidableEq, Repr

/-! ### Speed acquisition (R3) -/

/-- Drive status of an admitted slot. -/
structure DriveStatus where
  ready : Bool
  fault : Bool
  positionValid : Bool
  deriving DecidableEq, Repr

/-- The acquisition record of a roller channel (R3, R5). -/
structure Acquisition where
  /-- whether cLast holds a count that a speed may be computed from -/
  seeded : Bool
  /-- last valid position count -/
  cLast : Word
  /-- number of cycles the next delta will span -/
  k : Nat
  /-- held speed, SU -/
  v : Int
  /-- consecutive cycles without a usable sample, saturating at 255 -/
  staleCount : Nat
  /-- position count taken since the last speed settling -/
  pendingSample : Option Word
  /-- drive status record -/
  status : DriveStatus
  /-- no fresh sample at the latest settling -/
  staleFlag : Bool
  /-- FEEDBACK_STALE cause -/
  feedbackStale : Bool
  /-- DRIVE_FAULT cause -/
  driveFault : Bool
  /-- late or duplicate slot counter, saturating at 65535 -/
  lateCount : Nat
  /-- the roller's sample for the open window is taken (R5) -/
  taken : Bool
  deriving DecidableEq, Repr

/-- After reset (R3). -/
def Acquisition.reset : Acquisition :=
  { seeded := false, cLast := 0, k := 1, v := 0, staleCount := 0, pendingSample := none,
    status := ⟨false, false, false⟩, staleFlag := false, feedbackStale := false, driveFault := false,
    lateCount := 0, taken := false }

/-! ### Coupling engine (R21, R41, R42) -/

/-- Group runtime record, reference part (R21). -/
structure GroupReference where
  includedCount : Nat
  contributingCount : Nat
  /-- reference present -/
  present : Bool
  /-- index speed -/
  x : Int
  /-- reference u_ref -/
  uRef : Int
  /-- GROUP_LOST cause -/
  groupLost : Bool
  deriving DecidableEq, Repr

/-- After reset (R21). -/
def GroupReference.reset : GroupReference := ⟨0, 0, false, 0, 0, false⟩

/-- Roller runtime record, reference part (R21). -/
structure RollerReference where
  /-- excluded mark -/
  excluded : Bool
  /-- included flag -/
  included : Bool
  /-- ratio in use R -/
  ratio : Int
  /-- normalised speed -/
  u : Int
  /-- target -/
  t : Int
  /-- error -/
  e : Int
  deriving DecidableEq, Repr

/-- After reset (R21). -/
def RollerReference.reset : RollerReference := ⟨false, false, 0, 0, 0, 0⟩

/-- Group state, engage step and suspend marker (R41). -/
structure GroupCoupling where
  state : GroupState
  /-- engage step k -/
  step : Nat
  /-- suspend marker -/
  suspend : Bool
  deriving DecidableEq, Repr

/-- After reset (R41). -/
def GroupCoupling.reset : GroupCoupling := ⟨.detached, 1, false⟩

/-- Roller torque fields (R42), with Qeff of the latest coupling torque stage (R62) and the clamped flag (R48). -/
structure RollerTorque where
  /-- accumulated error -/
  a : Int
  /-- coupling torque -/
  qOut : Int
  /-- authority clamp side -/
  authSide : ClampSide
  /-- range clamp side -/
  rangeSide : ClampSide
  /-- Qeff of the latest coupling torque stage -/
  qeff : Nat
  /-- clamped flag of the latest computation -/
  clamped : Bool
  deriving DecidableEq, Repr

/-- After reset (R42, R46). -/
def RollerTorque.reset : RollerTorque := ⟨0, 0, .none, .none, 0, false⟩

/-! ### Torque composer (R64) -/

/-- Composer record of a roller channel. -/
structure Composer where
  phase : Phase
  lastWritten : Int
  rampStart : Int
  composed : Int
  /-- saturation run count -/
  runCount : Nat
  /-- TORQUE_SATURATION cause -/
  saturation : Bool
  /-- ENABLE written -/
  enable : Bool
  deriving DecidableEq, Repr

/-- After reset, with the roller's Active Clear torque (R64). -/
def Composer.reset (clearTorque : Int) : Composer := ⟨.off, clearTorque, clearTorque, clearTorque, 0, false, false⟩

/-! ### Deviation monitor (R79) -/

/-- Monitor record of a roller channel. -/
structure Monitor where
  monitored : Bool
  blockSum : Int
  blockFill : Nat
  /-- latest block result -/
  latest : Option Int
  persistence : Nat
  syncWarn : Bool
  syncFault : Bool
  positionFault : Bool
  deriving DecidableEq, Repr

/-- After reset (R79), and the cleared record of an inactive roller (R80). -/
def Monitor.reset : Monitor := ⟨false, 0, 0, none, 0, false, false, false⟩

/-! ### Reaction unit (R92) -/

/-- Fault store, levels, pending exclusions, Restart flag and ESTOP cause. -/
structure Reaction where
  faults : List FaultEntry
  levels : Quad Level
  exclusions : Quad Bool
  restart : Bool
  /-- ESTOP line as last taken -/
  estopCause : Bool
  deriving DecidableEq, Repr

/-- After reset (R92); the ESTOP input is sampled afterwards (R104). -/
def Reaction.reset : Reaction := ⟨[], Quad.all .none, Quad.all false, true, false⟩

/-! ### History buffer (R107, R108) -/

/-- What a cycle record holds of one roller (R108): no drive status, which R40 names too (log entry 32). -/
structure RollerRecord where
  v : Int
  e : Int
  qOut : Int
  written : Int
  stale : Bool
  included : Bool
  clamped : Bool
  substituted : Bool
  deriving DecidableEq, Repr

/-- A cycle record (R108). -/
structure CycleRecord where
  count : Word
  rollers : Quad RollerRecord
  deriving DecidableEq, Repr

/-- Ring, history state and post-trigger remainder (R107). -/
structure History where
  /-- records, oldest first -/
  ring : List CycleRecord
  state : HistoryState
  remainder : Nat
  deriving DecidableEq, Repr

/-- After reset (R107). -/
def History.reset : History := ⟨[], .recording, 0⟩

/-! ### Ports (R120, R121, R131) -/

/-- A telegram whose reception completed while another was in passage, with its reception moment. -/
structure Received where
  bytes : List Byte
  moment : Nat
  deriving DecidableEq, Repr

/-- The three kinds of telegram the Drive port transmits (R121). -/
inductive DemandOrigin where
  /-- an edited cell Demand -/
  | edited
  /-- a poisoned forward of a bad Demand -/
  | poisoned
  /-- a substitute Demand of the Cycle timer -/
  | substitute
  deriving DecidableEq, Repr

/-- A telegram at the Drive port, being sent or ready. -/
structure Outgoing where
  origin : DemandOrigin
  bytes : List Byte
  deriving DecidableEq, Repr

/-- A telegram being sent from the Cell port, and whether it carries the unit's response (R129). -/
structure SentFeedback where
  bytes : List Byte
  carries : Bool
  deriving DecidableEq, Repr

/-- The Cell port (R120, R129, R131). -/
structure CellPort where
  /-- the Demand waiting at this port -/
  waiting : Option Received
  /-- the good Demand whose passage has reached its computation and not yet its transmission (R123, R133) -/
  accepted : Option (List Byte)
  /-- the Feedback being sent up -/
  sending : Option SentFeedback
  /-- demand check error counter -/
  demandErrors : Nat
  deriving DecidableEq, Repr

/-- After reset (R120, R131). -/
def CellPort.reset : CellPort := ⟨none, none, none, 0⟩

/-- The Drive port (R120, R121, R131). -/
structure DrivePort where
  /-- the Feedback waiting at this port -/
  waiting : Option (List Byte)
  /-- the Demand being sent down -/
  sending : Option Outgoing
  /-- Demands ready behind it, in the order in which they became ready -/
  ready : List Outgoing
  /-- last sent sequence -/
  lastSeq : Option Half
  /-- last transmission time -/
  lastTx : Option Nat
  /-- feedback check error counter -/
  feedbackErrors : Nat
  deriving DecidableEq, Repr

/-- After reset (R120, R121, R131). -/
def DrivePort.reset : DrivePort := ⟨none, none, [], none, none, 0⟩

/-! ### Cycle timer (R132) -/

/-- One slot of a Demand telegram: torque demand and the eight control flags (R117). -/
structure Slot where
  torque : Half
  flags : Byte
  deriving DecidableEq, Repr

/-- The kinds of cycle computation, by what started it (R133). -/
inductive Computation where
  /-- started by a good cell Demand -/
  | cell
  /-- started by a substitute expiry -/
  | substitute
  deriving DecidableEq, Repr

/-- The Cycle timer's record. -/
structure Timer where
  link : LinkState
  deadline : Option Nat
  nextExpiry : Option Nat
  held : Option (Quad Slot)
  cycleCount : Word
  resyncDrops : Nat
  /-- the cycle computation that is running (R133, R140) -/
  computing : Option Computation
  deriving DecidableEq, Repr

/-- After reset (R132). No computation runs (R142). -/
def Timer.reset : Timer := ⟨.idle, none, none, none, 0, 0, none⟩

/-! ### Image store (R143, R146, R150, R153, R156 to R158) -/

/-- The transfer context (R150). -/
structure Transfer where
  isOpen : Bool
  first : Nat
  last : Nat
  current : Int
  ignored : Nat
  deriving DecidableEq, Repr

/-- After reset (R146). -/
def Transfer.reset : Transfer := ⟨false, 0, 0, -1, 0⟩

/-- The commit record (R153), with the computations begun since acceptance (R154). -/
structure Commit where
  state : CommitState
  expected : Word
  computed : Half
  age : Nat
  deriving DecidableEq, Repr

/-- After reset (R153). -/
def Commit.reset : Commit := ⟨.none, 0, 0, 0⟩

/-- What a calibration store write will leave in the store: the values taken at acceptance and the new count (R158). -/
structure CalibrationWrite where
  fields : List Word
  count : Word
  deriving DecidableEq, Repr

/-- A pending live write (R157). -/
structure LiveValue where
  index : Nat
  value : Word
  deriving DecidableEq, Repr

/-- The Image store. -/
structure ImageStore where
  active : Image
  staging : Image
  transfer : Transfer
  commit : Commit
  liveLower : Nat
  liveUpper : Nat
  /-- pending live writes, in order of acceptance -/
  pendingLive : List LiveValue
  /-- the calibration store write in progress (Store writing flag) -/
  writing : Option CalibrationWrite
  /-- Calibration valid flag -/
  calibrationValid : Bool
  /-- SETUP line as last taken -/
  setupLine : Bool
  deriving DecidableEq, Repr

/-- After reset, with the image and the validity the load gives (R146). -/
def ImageStore.reset (img : Image) (valid : Bool) : ImageStore :=
  { active := img, staging := img, transfer := Transfer.reset, commit := Commit.reset, liveLower := 0, liveUpper := 0,
    pendingLive := [], writing := none, calibrationValid := valid, setupLine := false }

/-- The nonvolatile Calibration store (R158). -/
structure CalibrationStore where
  fields : List Word
  count : Word
  check : Half
  deriving DecidableEq, Repr

/-- The store of a new unit, which is invalid (section 12.1). DESIGN CHOICE, unsafe: log entry 9. -/
def CalibrationStore.blank : CalibrationStore := ⟨List.replicate 37 0, 0, 0⟩

/-- The store is valid at a load: its values pass and its check word equals the CRC of its contents (R146). -/
def CalibrationStore.valid (c : CalibrationStore) : Bool :=
  calibrationValuesValid c.fields && c.check == calibrationCrc c.fields c.count

/-! ### Service unit (R160) -/

/-- A queue entry: the service request area as received, less the destination (R160). -/
structure Request where
  kind : Byte
  area : RequestArea
  deriving DecidableEq, Repr

/-- A response as the unit writes it (R129, R162). -/
structure Response where
  kind : Byte
  tag : Byte
  outcome : Result
  index : Half
  count : Byte
  data : List Word
  deriving DecidableEq, Repr

/-- The Service unit. -/
structure Service where
  /-- Service queue, head first -/
  queue : List Request
  /-- head progress -/
  progress : Option Progress
  /-- ready response -/
  ready : Option Response
  overrun : Bool
  lastRefusedTag : Byte
  overruns : Nat
  deriving DecidableEq, Repr

/-- After reset (R160). -/
def Service.reset : Service := ⟨[], none, none, false, 0, 0⟩

end Sys2Proof.Machine
end

