-- ==== Sys2Proof/Machine/State.lean ====
section
/-! DEFINITION. The state of the unit, its value after reset, and the reasons a step could stop. -/

namespace Sys2Proof.Machine

/-- Reasons the unit stops: there are none. Every fault of the spec is a record with a reaction (R90) and every
refusal of a request is a response (R162), after both of which the unit goes on. -/
inductive Fault where
  deriving DecidableEq, Repr

/-- Reasons a command has no meaning. -/
inductive Refusal where
  /-- raised by an arm of exec for a command that is not modelled; safe; no arm raises it -/
  | notModelled (mnemonic : String)
  deriving DecidableEq, Repr

/-- Everything the unit keeps, one field per block, with the model's own clock, draw count and command queue. -/
structure State where
  /-- the unit has power (R146, R159) -/
  powered : Bool
  /-- the RESET input is held (R122) -/
  resetHeld : Bool
  /-- the ESTOP input as driven (R104) -/
  estopInput : Bool
  /-- the SETUP input as driven (R149) -/
  setupInput : Bool
  /-- the unit's time base, microseconds. MODEL's own, log entry 2 -/
  clock : Nat
  /-- Speed acquisition, per roller (R3) -/
  acq : Quad Acquisition
  /-- the sample window: closed, or open on a sequence (R4) -/
  window : Option Half
  /-- Coupling engine, reference part, per group (R21) -/
  groupRef : Quad GroupReference
  /-- Coupling engine, reference part, per roller (R21) -/
  rollerRef : Quad RollerReference
  /-- Coupling engine, group state (R41) -/
  coupling : Quad GroupCoupling
  /-- Coupling engine, torque fields (R42) -/
  torque : Quad RollerTorque
  /-- Torque composer (R64) -/
  composer : Quad Composer
  /-- Deviation monitor (R79) -/
  monitor : Quad Monitor
  /-- Reaction unit (R92) -/
  reaction : Reaction
  /-- History buffer (R107) -/
  history : History
  /-- Cell port (R120) -/
  cellPort : CellPort
  /-- Drive port (R120, R121) -/
  drivePort : DrivePort
  /-- Cycle timer (R132) -/
  timer : Timer
  /-- Image store (R143) -/
  images : ImageStore
  /-- nonvolatile Calibration store (R158) -/
  calibration : CalibrationStore
  /-- Service unit (R160) -/
  service : Service
  /-- number of free values drawn so far. MODEL's own, log entry 7 -/
  draws : Nat
  /-- commands waiting, first in, first out. MODEL's own, log entry 1 -/
  pending : List Instr
  deriving DecidableEq, Repr

/-- The unit right after reset: the reset values of every block, the default images of a new unit whose Calibration
store is invalid, RESET released, ESTOP released and SETUP inactive (log entry 9), and no command waiting. -/
def State.reset : State :=
  { powered := true,
    resetHeld := false,
    estopInput := false,
    setupInput := false,
    clock := 0,
    acq := Quad.all Acquisition.reset,
    window := none,
    groupRef := Quad.all GroupReference.reset,
    rollerRef := Quad.all RollerReference.reset,
    coupling := Quad.all GroupCoupling.reset,
    torque := Quad.all RollerTorque.reset,
    composer := Quad.all (Composer.reset 0),
    monitor := Quad.all Monitor.reset,
    reaction := Reaction.reset,
    history := History.reset,
    cellPort := CellPort.reset,
    drivePort := DrivePort.reset,
    timer := Timer.reset,
    images := ImageStore.reset defaultImage false,
    calibration := CalibrationStore.blank,
    service := Service.reset,
    draws := 0,
    pending := [] }

/-! ### Field updates. One lemma per field and update stands in Laws/State.lean. -/

/-- The state with `powered` replaced. -/
def State.withPowered (s : State) (x : Bool) : State := { s with powered := x }

/-- The state with `resetHeld` replaced. -/
def State.withResetHeld (s : State) (x : Bool) : State := { s with resetHeld := x }

/-- The state with `estopInput` replaced. -/
def State.withEstopInput (s : State) (x : Bool) : State := { s with estopInput := x }

/-- The state with `setupInput` replaced. -/
def State.withSetupInput (s : State) (x : Bool) : State := { s with setupInput := x }

/-- The state with `clock` replaced. -/
def State.withClock (s : State) (x : Nat) : State := { s with clock := x }

/-- The state with `acq` replaced. -/
def State.withAcq (s : State) (x : Quad Acquisition) : State := { s with acq := x }

/-- The state with `window` replaced. -/
def State.withWindow (s : State) (x : Option Half) : State := { s with window := x }

/-- The state with `groupRef` replaced. -/
def State.withGroupRef (s : State) (x : Quad GroupReference) : State := { s with groupRef := x }

/-- The state with `rollerRef` replaced. -/
def State.withRollerRef (s : State) (x : Quad RollerReference) : State := { s with rollerRef := x }

/-- The state with `coupling` replaced. -/
def State.withCoupling (s : State) (x : Quad GroupCoupling) : State := { s with coupling := x }

/-- The state with `torque` replaced. -/
def State.withTorque (s : State) (x : Quad RollerTorque) : State := { s with torque := x }

/-- The state with `composer` replaced. -/
def State.withComposer (s : State) (x : Quad Composer) : State := { s with composer := x }

/-- The state with `monitor` replaced. -/
def State.withMonitor (s : State) (x : Quad Monitor) : State := { s with monitor := x }

/-- The state with `reaction` replaced. -/
def State.withReaction (s : State) (x : Reaction) : State := { s with reaction := x }

/-- The state with `history` replaced. -/
def State.withHistory (s : State) (x : History) : State := { s with history := x }

/-- The state with `cellPort` replaced. -/
def State.withCellPort (s : State) (x : CellPort) : State := { s with cellPort := x }

/-- The state with `drivePort` replaced. -/
def State.withDrivePort (s : State) (x : DrivePort) : State := { s with drivePort := x }

/-- The state with `timer` replaced. -/
def State.withTimer (s : State) (x : Timer) : State := { s with timer := x }

/-- The state with `images` replaced. -/
def State.withImages (s : State) (x : ImageStore) : State := { s with images := x }

/-- The state with `calibration` replaced. -/
def State.withCalibration (s : State) (x : CalibrationStore) : State := { s with calibration := x }

/-- The state with `service` replaced. -/
def State.withService (s : State) (x : Service) : State := { s with service := x }

/-- The state with `draws` replaced. -/
def State.withDraws (s : State) (x : Nat) : State := { s with draws := x }

/-- The unit takes telegrams, line changes and requests: it has power and the RESET input is not held (R122, R92). -/
def State.alive (s : State) : Bool := s.powered && !s.resetHeld

/-- The Active image (R143). -/
def State.active (s : State) : Image := s.images.active

end Sys2Proof.Machine
end

