-- ==== Sys2Proof/Machine/Operands.lean ====
section
/-! DEFINITION. The fields of telegrams and of service requests, read and written at their places (R117 to R120, R160). -/

namespace Sys2Proof.Machine

/-! ### Check words (R119, R120) -/

/-- A telegram with its check word: the CRC of the bytes before it (R119, *Recomputed* and *Substitute*). -/
def sealed (body : List Byte) : List Byte := body ++ bytesOfHalf (crc16 body)

/-- A received telegram with its last two bytes replaced by the inverted CRC of those before them (R119, *Poisoned*). -/
def poison (bytes : List Byte) : List Byte :=
  bytes.take (bytes.length - 2) ++ bytesOfHalf (~~~ crc16 (bytes.take (bytes.length - 2)))

/-- A received telegram is good: its length, its kind byte and its check word are right (R120). -/
def goodTelegram (length : Nat) (kind : Byte) (bytes : List Byte) : Bool :=
  bytes.length == length && byteAt bytes 0 == kind && halfAt bytes (length - 2) == crc16 (bytes.take (length - 2))

/-- A good reception at the Cell port. -/
def goodDemand (bytes : List Byte) : Bool := goodTelegram Config.demandLength 1 bytes

/-- A good reception at the Drive port. -/
def goodFeedback (bytes : List Byte) : Bool := goodTelegram Config.feedbackLength 2 bytes

/-! ### Demand telegram (R117) -/

/-- The sequence field. -/
def sequenceOf (bytes : List Byte) : Half := halfAt bytes 2

/-- Slot `p` of a Demand. -/
def demandSlot (bytes : List Byte) (p : Chan) : Slot := ⟨halfAt bytes (4 + 3 * p.val), byteAt bytes (6 + 3 * p.val)⟩

/-- The four slots of a Demand. -/
def demandSlots (bytes : List Byte) : Quad Slot := Quad.ofFn (demandSlot bytes)

/-- Destination code of the request area: 0 NONE, 1 PART, 2 to 5 DRIVE 0 to 3. -/
def destinationOf (bytes : List Byte) : Byte := byteAt bytes 16

/-- The service request area as received, less the destination (R160). -/
def requestOf (bytes : List Byte) : Request :=
  { kind := byteAt bytes 17
    area :=
      { tag := byteAt bytes 18
        object := byteAt bytes 19
        index := halfAt bytes 20
        count := byteAt bytes 22
        data := (List.range 8).map fun j => wordAt bytes (23 + 4 * j) } }

/-- The empty request area: destination NONE followed by 38 bytes of 0. -/
def emptyArea : List Byte := List.replicate 39 0

/-- The ENABLE flag, bit 0 of the control flags. -/
def Slot.enable (sl : Slot) : Bool := sl.flags.getLsbD 0

/-- The torque demand, signed. -/
def Slot.demand (sl : Slot) : Int := sl.torque.toInt

/-- The control flags with ENABLE written and flags 1 to 7 as received (R74, R124). -/
def withEnable (flags : Byte) (enable : Bool) : Byte := (flags &&& 0xFE) ||| (if enable then 1 else 0)

/-- The channel whose slot map entry is position `p` (R5, R124). -/
def channelAt (img : Image) (p : Chan) : Option Chan := channels.find? fun r => img.slotOf r == p.val

/-- The slot position of a channel in range of the telegram. -/
def slotPosition (img : Image) (r : Chan) : Chan := Fin.ofNat 4 (img.slotOf r)

/-! ### Feedback telegram (R118) -/

/-- Echo sequence of slot `p`. -/
def echoOf (bytes : List Byte) (p : Nat) : Half := halfAt bytes (4 + 9 * p)

/-- Position count of slot `p`. -/
def positionOf (bytes : List Byte) (p : Nat) : Word := wordAt bytes (6 + 9 * p)

/-- Drive status of slot `p`: bit 0 READY, bit 1 FAULT, bit 2 POSITION_VALID. -/
def statusOf (bytes : List Byte) (p : Nat) : DriveStatus :=
  let b := byteAt bytes (12 + 9 * p)
  ⟨b.getLsbD 0, b.getLsbD 1, b.getLsbD 2⟩

/-- Source code of the response area: 0 NONE, 1 PART, 2 to 5 DRIVE 0 to 3. -/
def responseSource (bytes : List Byte) : Byte := byteAt bytes 73

/-! ### Request and response fields (R160, R162) -/

/-- Data word `j` of a request. -/
def Request.dataWord (q : Request) (j : Nat) : Word := q.area.data.getD j 0

/-- The kind code of a request. -/
def Request.code (q : Request) : Nat := q.kind.toNat

/-- Outcome codes (R162). -/
def Result.code : Result → Byte
  | .done => 0
  | .partial_ => 1
  | .refusedState => 2
  | .refusedBusy => 3
  | .refusedProtected => 4
  | .refusedRange => 5
  | .refusedCheck => 6
  | .refusedInvalid => 7
  | .unknownKind => 8

/-- Eight data words, those not used written 0 (R162). -/
def eightWords (ws : List Word) : List Word := (ws ++ List.replicate 8 0).take 8

/-- A response to a request: kind, tag, index and count echoed, data words not used 0 (R162). -/
def respond (q : Request) (outcome : Result) (ws : List Word) : Response :=
  { kind := q.kind, tag := q.area.tag, outcome := outcome, index := q.area.index, count := q.area.count,
    data := eightWords ws }

/-- The response area as the unit writes it: source PART and every byte (R129). -/
def responseBytes (p : Response) : List Byte :=
  [1, p.kind, p.tag, p.outcome.code] ++ bytesOfHalf p.index ++ [p.count] ++ bytesOfWords (eightWords p.data)

/-! ### Group functions (R167) -/

/-- The functions of a GROUP_CONTROL request. -/
inductive GroupFunction where
  | engage (group : Chan)
  | release (group : Chan)
  | clear (group : Chan)
  | clearPart
  | capture
  | rearm
  | clearRestart
  deriving DecidableEq, Repr

/-- The bit of a function in data word 0. -/
def GroupFunction.bit : GroupFunction → Nat
  | .engage g => g.val
  | .release g => 4 + g.val
  | .clear g => 8 + g.val
  | .clearPart => 12
  | .capture => 13
  | .rearm => 14
  | .clearRestart => 15

/-- All sixteen functions in bit order. -/
def groupFunctions : List GroupFunction :=
  channels.map .engage ++ channels.map .release ++ channels.map .clear ++ [.clearPart, .capture, .rearm, .clearRestart]

/-- The data word with one function's bit. -/
def GroupFunction.mask (f : GroupFunction) : Word := BitVec.twoPow 32 f.bit

/-- Whether a function is in the set of a data word. -/
def inSet (w : Word) (f : GroupFunction) : Bool := w.getLsbD f.bit

/-- The data word of the functions that satisfy a test. -/
def setOf (p : GroupFunction → Bool) : Word :=
  groupFunctions.foldl (fun acc f => if p f then acc ||| f.mask else acc) 0

/-- A request that carries one group function. -/
def functionRequest (f : GroupFunction) (tag : Byte) : Request :=
  ⟨8, ⟨tag, 0, 0, 0, f.mask :: List.replicate 7 0⟩⟩

/-- The service request area of a request with destination PART (R117). -/
def partArea (q : Request) : List Byte :=
  [1, q.kind, q.area.tag, q.area.object] ++ bytesOfHalf q.area.index ++ [q.area.count] ++
    bytesOfWords (eightWords q.area.data)

/-- The cell Demand that brings one group function (R117, R119, R167). -/
def functionDemand (f : GroupFunction) (c : Carrier) : List Byte :=
  sealed ([1, 0] ++ bytesOfHalf c.sequence ++ c.slots ++ partArea (functionRequest f c.tag))

end Sys2Proof.Machine
end

