-- ==== Sys2Proof/Machine/Flags.lean ====
section
/-! DEFINITION. Codes of named states, the FAULT line and the flags of the Status block (R105, R118, R128, R165). -/

namespace Sys2Proof.Machine

/-- Group state code (R118). -/
def GroupState.code : GroupState → Nat
  | .detached => 0
  | .engaging => 1
  | .coupled => 2
  | .releasing => 3
  | .suspended => 4

/-- Substitution phase code (R118). -/
def Phase.code : Phase → Nat
  | .off => 0
  | .ramp => 1
  | .atClear => 2
  | .return_ => 3

/-- History state code (R118). -/
def HistoryState.code : HistoryState → Nat
  | .recording => 0
  | .postTrigger => 1
  | .frozen => 2

/-- Link state code (R165). -/
def LinkState.code : LinkState → Nat
  | .idle => 0
  | .up => 1
  | .lost => 2

/-- Commit state code (R165). -/
def CommitState.code : CommitState → Nat
  | .none => 0
  | .checking => 1
  | .ready => 2

/-- Clamp side code (R165). -/
def ClampSide.code : ClampSide → Nat
  | .none => 0
  | .upper => 1
  | .lower => 2

/-- Drive status record as bits 0 READY, 1 FAULT, 2 POSITION_VALID (R165). -/
def DriveStatus.code (d : DriveStatus) : Nat :=
  (if d.ready then 1 else 0) + (if d.fault then 2 else 0) + (if d.positionValid then 4 else 0)

/-- The FAULT output (R105): the Restart flag, an entry whose kind is in Line Sources, or the RESET input held. -/
def State.faultLine (s : State) : Bool :=
  s.reaction.restart || s.reaction.faults.any (fun f => s.active.lineSource f.kind.code) || s.resetHeld

/-- Commit in flight: CHECKING or READY (R153). -/
def State.commitInFlight (s : State) : Bool := s.images.commit.state != .none

/-- Store writing (R158). -/
def State.storeWriting (s : State) : Bool := s.images.writing.isSome

/-- The weight of a flag in a sum of bits. -/
def bitValue (b : Bool) (i : Nat) : Nat := if b then 2 ^ i else 0

/-- The part flags of the Status block (R118, R128). -/
def partFlags (s : State) : Nat :=
  bitValue s.reaction.restart 0 + bitValue (s.timer.link == .lost) 1 + bitValue s.faultLine 2 +
  bitValue s.commitInFlight 3 + bitValue s.images.transfer.isOpen 4 + s.history.state.code * 32 +
  bitValue s.service.overrun 7 + bitValue s.storeWriting 8 + bitValue s.images.setupLine 9 +
  bitValue s.reaction.estopCause 10

/-- The roller flags of the Status block for a channel (R118, R128): the included flag as the latest reference stage formed
it (R38), and the excluded mark, which no reference stage forms (R21), as it stands (R128).
DEDUCED, unsafe: R38's "flags of the earlier stage" are those the stage forms (log entry 31). -/
def rollerFlags (s : State) (r : Chan) : Nat :=
  bitValue (s.rollerRef.get r).included 0 + bitValue (s.rollerRef.get r).excluded 1 +
  bitValue (s.acq.get r).staleFlag 2 + bitValue (s.torque.get r).clamped 3 + (s.composer.get r).phase.code * 16

/-- The error as the Status block shows it: saturated to ±32767 (R39). -/
def shownError (e : Int) : Int := clamp (-32767) 32767 e

/-- The Status block, bytes 40 to 72 of a Feedback (R118, R128).
DESIGN CHOICE, unsafe: it has no held speed and no drive status. R15 and R40 say that a roller's speed is shown in it, and
R40 its drive status too, for which the layout of R118 has no field; R19 gives it the stale flag only (log entry 32).
DESIGN CHOICE, unsafe: it has no ENABLE flag, which R74 keeps for it and for which R118 has no field; RUNTIME alone shows
it (log entry 34). -/
def statusBlock (s : State) : List Byte :=
  channels.map (fun g => BitVec.ofNat 8 (s.coupling.get g).state.code) ++
  channels.map (fun g => BitVec.ofNat 8 (s.reaction.levels.get g).code) ++
  bytesOfHalf (BitVec.ofNat 16 (partFlags s)) ++
  channels.map (fun r => BitVec.ofNat 8 (rollerFlags s r)) ++
  channels.flatMap (fun r => bytesOfHalf (BitVec.ofInt 16 (s.torque.get r).qOut)) ++
  channels.flatMap (fun r => bytesOfHalf (BitVec.ofInt 16 (shownError (s.rollerRef.get r).e))) ++
  bytesOfHalf (s.timer.cycleCount.setWidth 16) ++ [s.service.lastRefusedTag]

end Sys2Proof.Machine
end

