-- ==== Sys2Proof/Machine/Ops.lean ====
section
/-! DEFINITION. The operations several blocks share: reports to the Reaction unit and what they set off, the history
trigger, the Drive port's transmission, and reset. -/

namespace Sys2Proof.Machine

/-! ### Fault store (R93 to R95) -/

/-- The configured level of a kind, read from the Active image as it stands (R91). -/
def State.configuredLevel (s : State) (k : FaultKind) : Level := Level.ofCode (s.active.reactionLevel k.code)

/-- An entry has the key (kind, scope) (R93). -/
def FaultEntry.hasKey (f : FaultEntry) (k : FaultKind) (scope : Chan) : Bool := f.kind == k && f.scope == scope

/-- An entry after a further occurrence of its key (R94). -/
def FaultEntry.again (f : FaultEntry) (cycle : Word) : FaultEntry :=
  { f with last := cycle, count := satInc 255 f.count, causePresent := f.kind.lasting }

/-- The Fault store after an occurrence (R94): the key's entry is updated in place, or a new one appended. -/
def recordFault (faults : List FaultEntry) (k : FaultKind) (scope : Chan) (cycle : Word) : List FaultEntry :=
  if faults.any (fun f => f.hasKey k scope) then
    faults.map fun f => if f.hasKey k scope then f.again cycle else f
  else faults ++ [⟨k, scope, cycle, cycle, 1, k.lasting⟩]

/-- The Fault store after the end of a lasting cause (R95). -/
def endCause (faults : List FaultEntry) (k : FaultKind) (scope : Chan) : List FaultEntry :=
  faults.map fun f => if f.hasKey k scope then { f with causePresent := false } else f

/-! ### Escalation (R57, R97) -/

/-- A group's state when its level rises to HOLD or SAFE (R57). -/
def GroupCoupling.suspendOnRise (c : GroupCoupling) : GroupCoupling :=
  match c.state with
  | .engaging => { c with state := .releasing, suspend := true }
  | .coupled => { c with state := .releasing, suspend := true }
  | .releasing => { c with suspend := true }
  | .detached => c
  | .suspended => c

/-- What a level's change from `old` to `new` does to the group's state: a rise to HOLD or SAFE acts by R57. -/
def GroupCoupling.onLevel (c : GroupCoupling) (old new : Level) : GroupCoupling :=
  if old.code < new.code ∧ 3 ≤ new.code then c.suspendOnRise else c

/-- Every group's level replaced, each rise acting at once (R57, R97, R102). -/
def State.setLevels (s : State) (levels : Quad Level) : State :=
  (s.withReaction { s.reaction with levels := levels }).withCoupling
    (Quad.ofFn fun g => (s.coupling.get g).onLevel (s.reaction.levels.get g) (levels.get g))

/-- Whether an occurrence or an entry of a kind and scope applies to a group (R97, R102). -/
def appliesTo (img : Image) (k : FaultKind) (scope g : Chan) : Bool :=
  match k.scopeKind with
  | .part => true
  | .roller => img.isMember g scope
  | .group => scope == g

/-- Escalation: each affected group's level becomes the greater of its level and the kind's configured level (R97). -/
def State.escalate (s : State) (k : FaultKind) (scope : Chan) : State :=
  s.setLevels (Quad.ofFn fun g =>
    if appliesTo s.active k scope g then (s.reaction.levels.get g).max (s.configuredLevel k) else s.reaction.levels.get g)

/-- Pending exclusion of the roller of a roller-scope occurrence configured at DEGRADE (R99). -/
def State.setExclusion (s : State) (k : FaultKind) (scope : Chan) : State :=
  if k.scopeKind = .roller ∧ s.configuredLevel k = .degrade then
    s.withReaction { s.reaction with exclusions := s.reaction.exclusions.set scope true }
  else s

/-! ### History trigger (R110, R112) -/

/-- The buffer after a trigger, with the post-trigger count of the Active image (R112). -/
def History.trigger (h : History) (postTrigger : Nat) : History :=
  match h.state with
  | .recording =>
    if postTrigger = 0 then { h with state := .frozen, remainder := 0 }
    else { h with state := .postTrigger, remainder := postTrigger }
  | .postTrigger => h
  | .frozen => h

/-- An occurrence of the kind triggers the buffer when its configured level reaches the trigger level (R110). -/
def State.triggers (s : State) (k : FaultKind) : Bool :=
  decide (1 ≤ s.active.triggerLevel) && decide (s.active.triggerLevel ≤ (s.configuredLevel k).code)

/-- The occurrence handed to the History buffer (R94, R110). -/
def State.offerTrigger (s : State) (k : FaultKind) : State :=
  if s.triggers k then s.withHistory (s.history.trigger s.active.postTrigger) else s

/-! ### Taking reports (R94 to R96) -/

/-- An occurrence: Fault store, escalation, exclusion, history (R94). It carries the cycle count as it stands (R96). -/
def State.occurrence (s : State) (k : FaultKind) (scope : Chan) : State :=
  (((s.withReaction { s.reaction with faults := recordFault s.reaction.faults k scope s.timer.cycleCount }).escalate
    k scope).setExclusion k scope).offerTrigger k

/-- The end of a lasting cause (R95). -/
def State.causeEnds (s : State) (k : FaultKind) (scope : Chan) : State :=
  s.withReaction { s.reaction with faults := endCause s.reaction.faults k scope }

/-- One report, taken whole and on its own (R96). -/
def State.takeReport (s : State) : Report → State
  | .occurrence k scope => s.occurrence k scope
  | .ended k scope => s.causeEnds k scope

/-- The reports of one stage. Two or more are taken in an arrangement the spec leaves open (R96): a free value
numbered by the draw count. Log entry 7. -/
def State.takeReports (s : State) (reports : List Report) : State :=
  match reports with
  | [] => s
  | [report] => s.takeReport report
  | _ => (arrange (Config.reportOrder s.draws) reports).foldl State.takeReport (s.withDraws (s.draws + 1))

/-- The report of a lasting cause's change, if it changed (R90). -/
def causeChange (k : FaultKind) (scope : Chan) (before after : Bool) : List Report :=
  if before == after then [] else if after then [.occurrence k scope] else [.ended k scope]

/-! ### The lines and the time base (R104, R149) -/

/-- Time passes until the moment of an event. -/
def State.tick (s : State) (elapsed : Nat) : State := s.withClock (s.clock + elapsed)

/-- The ESTOP input is asserted: an occurrence of ESTOP, unless the input is not taken (R92) or already stood
asserted (R104). -/
def State.assertEstop (s : State) : State :=
  let s1 := s.withEstopInput true
  if s.alive && !s.reaction.estopCause then
    (s1.withReaction { s1.reaction with estopCause := true }).occurrence .estop 0
  else s1

/-- The ESTOP input is released: the ESTOP cause ends, and no level is lowered (R104). -/
def State.releaseEstop (s : State) : State :=
  let s1 := s.withEstopInput false
  if s.alive && s.reaction.estopCause then
    (s1.withReaction { s1.reaction with estopCause := false }).causeEnds .estop 0
  else s1

/-- The SETUP input changes: taken as the SETUP line, except while the RESET input is held (R149). -/
def State.changeSetup (s : State) (active : Bool) : State :=
  let s1 := s.withSetupInput active
  if s.alive then s1.withImages { s1.images with setupLine := active } else s1

/-! ### The Drive port's transmission (R4, R121) -/

/-- Transmission of a telegram begins at a moment. An edited cell Demand or a substitute updates the port's records
and opens the sample window on its sequence, with no sample taken in it; a poisoned forward does neither (R4, R121).
DESIGN CHOICE, unsafe: where no settling has come since an earlier window, the pending samples taken in that one stay (log
entry 30). -/
def State.transmit (s : State) (out : Outgoing) (moment : Nat) : State :=
  match out.origin with
  | .poisoned => s.withDrivePort { s.drivePort with sending := some out }
  | .edited | .substitute =>
    ((s.withDrivePort { s.drivePort with
        sending := some out, lastSeq := some (sequenceOf out.bytes), lastTx := some moment }).withWindow
      (some (sequenceOf out.bytes))).withAcq
      (Quad.ofFn fun r => { s.acq.get r with taken := false })

/-- A telegram becomes ready at the Drive port: it is sent at once, or follows those before it (R121). -/
def State.driveReady (s : State) (out : Outgoing) (moment : Nat) : State :=
  match s.drivePort.sending with
  | none => s.transmit out moment
  | some _ => s.withDrivePort { s.drivePort with ready := s.drivePort.ready ++ [out] }

/-! ### Reset (R122, R146, and the reset columns of every block) -/

/-- The nonvolatile store when a write in progress is abandoned: it is left invalid, its check word no longer
matching its contents (R159). Log entry 10. -/
def CalibrationStore.abandoned (c : CalibrationStore) : CalibrationStore :=
  { c with check := ~~~ calibrationCrc c.fields c.count }

/-- The Calibration store after a calibration write in progress, if any, is abandoned (R159). -/
def State.survivingStore (s : State) : CalibrationStore :=
  if s.storeWriting then s.calibration.abandoned else s.calibration

/-- The image both images are set to: the defaults, with the 37 values of a valid store in place (R146). -/
def loadedImage (c : CalibrationStore) : Image := if c.valid then withMaintenance defaultImage c.fields else defaultImage

/-- Every block at its reset values, with the images rebuilt and the composer records at the loaded Clear torques.
What no reset touches stays: supply, input lines, time base, draws, nonvolatile store, waiting commands. -/
def State.resetBlocks (s : State) : State :=
  { State.reset with
    powered := s.powered
    resetHeld := s.resetHeld
    estopInput := s.estopInput
    setupInput := s.setupInput
    clock := s.clock
    draws := s.draws
    pending := s.pending
    calibration := s.survivingStore
    images := ImageStore.reset (loadedImage s.survivingStore) s.survivingStore.valid
    composer := Quad.ofFn fun r => Composer.reset ((loadedImage s.survivingStore).clearTorque r) }

/-- The end of a reset: the SETUP input is sampled (R149), then the ESTOP input, which is an occurrence if it is
asserted (R104). -/
def State.endReset (s : State) : State :=
  let s1 := s.withImages { s.images with setupLine := s.setupInput }
  if s.estopInput then (s1.withReaction { s1.reaction with estopCause := true }).occurrence .estop 0 else s1

end Sys2Proof.Machine
end

