-- ==== Sys2Proof/Machine/Acquisition.lean ====
section
/-! DEFINITION. Speed acquisition: slot examination and the speed settling stage (R4 to R18). -/

namespace Sys2Proof.Machine

/-! ### Slot examination (R5, R6) -/

/-- A slot is admitted: the window is open on the slot's echo sequence and the roller's sample is not yet taken (R5). -/
def slotAdmitted (window : Option Half) (echo : Half) (a : Acquisition) : Bool := window == some echo && !a.taken

/-- The record after its slot of a good Feedback is examined: admitted (R5) or set aside and counted (R6). A slot
without POSITION_VALID keeps the pending sample of an earlier window (log entry 30). -/
def Acquisition.examine (a : Acquisition) (window : Option Half) (echo : Half) (position : Word)
    (status : DriveStatus) : Acquisition :=
  if slotAdmitted window echo a then
    if status.positionValid then { a with status := status, pendingSample := some position, taken := true }
    else { a with status := status }
  else { a with lateCount := satInc 65535 a.lateCount }

/-- The four slots of a good Feedback, each examined for the channel whose slot map entry is its position (R5). -/
def State.examineSlots (s : State) (bytes : List Byte) : State :=
  s.withAcq (Quad.ofFn fun r =>
    (s.acq.get r).examine s.window (echoOf bytes (s.active.slotOf r)) (positionOf bytes (s.active.slotOf r))
      (statusOf bytes (s.active.slotOf r)))

/-! ### Speed from a position count (R7, R8) -/

/-- The position delta of a fresh count, negated for direction invert (R7). -/
def positionDelta (count cLast : Word) (invert : Bool) : Int :=
  if invert then -signedDiff count cLast else signedDiff count cLast

/-- The speed of a fresh sample that spans `k` cycles (R8). -/
def sampleSpeed (delta : Int) (pitch : Nat) (scale : Int) (k : Nat) : Int :=
  roundDiv (delta * pitch * scale) (65536 * k)

/-! ### One roller's settling (R10 to R13, R17, R18) -/

/-- A stale cycle (R12). -/
def Acquisition.staleCycle (a : Acquisition) (limit : Nat) : Acquisition :=
  { a with k := if a.seeded then min (a.k + 1) (limit + 1) else 1, staleCount := satInc 255 a.staleCount,
           staleFlag := true, pendingSample := none }

/-- A seeding or re-seeding sample (R13). -/
def Acquisition.seed (a : Acquisition) (count : Word) : Acquisition :=
  { a with cLast := count, seeded := true, k := 1, staleCount := 0, staleFlag := false, pendingSample := none }

/-- An accepted sample (R11). -/
def Acquisition.accept (a : Acquisition) (count : Word) (v : Int) : Acquisition :=
  { a with cLast := count, seeded := true, v := v, k := 1, staleCount := 0, staleFlag := false, pendingSample := none }

/-- An unconfigured roller, and a forced re-seed (R17, R18). -/
def Acquisition.unseat (a : Acquisition) : Acquisition :=
  { a with v := 0, seeded := false, k := 1, staleCount := 0, staleFlag := false, pendingSample := none }

/-- Whether a commit copy from `old` to `img` forces a roller's re-seed (R18). -/
def forcesReseed (old img : Image) (r : Chan) : Bool :=
  img.roller r 5 != old.roller r 5 || img.roller r 4 != old.roller r 4 || img.slotOf r != old.slotOf r ||
    img.periodCode != old.periodCode

/-- The result of settling one roller: its record, and whether its sample was implausible (R9). -/
structure Settled where
  record : Acquisition
  implausible : Bool
  deriving DecidableEq, Repr

/-- A configured roller with a pending sample (R10, cases 5 to 8). -/
def Acquisition.settleSample (a : Acquisition) (img : Image) (r : Chan) (count : Word) : Settled :=
  if !a.seeded then ⟨a.seed count, false⟩
  else if a.k = img.staleLimit r + 1 then ⟨a.seed count, false⟩
  else
    let v := sampleSpeed (positionDelta count a.cLast (img.invert r)) (img.pitch r) img.speedScale a.k
    if img.vmax r < |v| then ⟨a.staleCycle (img.staleLimit r), true⟩ else ⟨a.accept count v, false⟩

/-- A new stale limit reduces k to its cap at the settling of its commit (R18). -/
def Acquisition.capAfterCommit (a : Acquisition) (old : Option Image) (limit : Nat) : Acquisition :=
  match old with
  | none => a
  | some _ => { a with k := min a.k (limit + 1) }

/-- One roller settled by the first case of R10 that holds. `old` is the image a commit copy replaced at the start of
this computation, if any; `sent` says whether the Drive port has sent a sequence before this computation. -/
def Acquisition.settle (a : Acquisition) (img : Image) (old : Option Image) (sent : Bool) (r : Chan) : Settled :=
  if img.pitch r = 0 then ⟨a.unseat, false⟩
  else if old.any (fun o => forcesReseed o img r) then ⟨a.unseat, false⟩
  else
    let b := a.capAfterCommit old (img.staleLimit r)
    match b.pendingSample with
    | none => if sent then ⟨b.staleCycle (img.staleLimit r), false⟩ else ⟨{ b with staleFlag := false }, false⟩
    | some count => b.settleSample img r count

/-- Whether the FEEDBACK_STALE cause is present after settling (R14, R17). -/
def staleCause (img : Image) (r : Chan) (a : Acquisition) : Bool :=
  img.configured r && decide (img.staleLimit r ≤ a.staleCount)

/-- Whether the DRIVE_FAULT cause is present after settling (R16, R17). -/
def faultCause (img : Image) (r : Chan) (a : Acquisition) : Bool := img.configured r && a.status.fault

/-- The record with its two causes evaluated (R14, R16) and its window closed (R4). -/
def Acquisition.withCauses (a : Acquisition) (img : Image) (r : Chan) : Acquisition :=
  { a with feedbackStale := staleCause img r a, driveFault := faultCause img r a, taken := false }

/-! ### The stage (R10) -/

/-- The settling of a channel at this computation. -/
def State.settled (s : State) (old : Option Image) (sent : Bool) (r : Chan) : Settled :=
  (s.acq.get r).settle s.active old sent r

/-- The SPEED_IMPLAUSIBLE occurrences of the stage (R9). -/
def State.implausibleReports (s : State) (old : Option Image) (sent : Bool) : List Report :=
  channels.flatMap fun r => if (s.settled old sent r).implausible then [.occurrence .speedImplausible r] else []

/-- The cause changes of the stage (R14, R16). -/
def State.settlingReports (s : State) (old : Option Image) (sent : Bool) : List Report :=
  channels.flatMap fun r =>
    causeChange .feedbackStale r (s.acq.get r).feedbackStale (staleCause s.active r (s.settled old sent r).record) ++
    causeChange .driveFault r (s.acq.get r).driveFault (faultCause s.active r (s.settled old sent r).record)

/-- The speed settling stage: the window closes, each roller is settled, then the causes are evaluated and reported.
`sent` says whether the Drive port had sent a sequence before this computation. -/
def State.speedSettling (s : State) (old : Option Image) (sent : Bool) : State :=
  (((s.withWindow none).withAcq
    (Quad.ofFn fun r => (s.settled old sent r).record.withCauses s.active r)).takeReports
      (s.implausibleReports old sent)).takeReports (s.settlingReports old sent)

end Sys2Proof.Machine
end

