-- ==== Sys2Proof/Machine/Reference.lean ====
section
/-! DEFINITION. The reference stage: inclusion, ratio curves, reference, targets, errors and GROUP_LOST (R20 to R36). -/

namespace Sys2Proof.Machine

/-! ### Ratio curves (R27 to R29) -/

/-- The value of a segment between two breakpoints (R29). -/
def segmentValue (x x0 r0 x1 r1 : Int) : Int := roundDiv (r0 * (x1 - x0) + (r1 - r0) * (x - x0)) (x1 - x0)

/-- The value on the first segment, from `j` on, whose end lies beyond `x`; the last breakpoint's ratio past the
last one (R28, R29). `n` counts the breakpoints after `j`. -/
def curveFrom (img : Image) (c : Nat) (x : Int) : Nat → Nat → Int
  | 0, j => img.curveRatio c j
  | n + 1, j =>
    if x < img.curveSpeed c (j + 1) then
      segmentValue x (img.curveSpeed c j) (img.curveRatio c j) (img.curveSpeed c (j + 1)) (img.curveRatio c (j + 1))
    else curveFrom img c x n (j + 1)

/-- Ratio curve `c` evaluated at the index speed (R28, R29). -/
def curveValue (img : Image) (c : Nat) (x : Int) : Int :=
  if x ≤ img.curveSpeed c 0 then img.curveRatio c 0 else curveFrom img c x (img.curveCount c - 1) 0

/-! ### Inclusion (R22) -/

/-- Whether a roller is included, given its excluded mark (R22). -/
def includes (img : Image) (excluded : Bool) (r : Chan) : Bool :=
  img.inCouplingGroup r && img.configured r && !excluded

/-- Whether the roller is included in this computation. -/
def State.includesRoller (s : State) (r : Chan) : Bool := includes s.active (s.rollerRef.get r).excluded r

/-- The included members of a group, given each channel's included flag. -/
def includedMembers (img : Image) (inc : Chan → Bool) (g : Chan) : List Chan := (img.members g).filter inc

/-- The contributing members of a group: included, with a weight above 0 (R22). -/
def contributingMembers (img : Image) (inc : Chan → Bool) (g : Chan) : List Chan :=
  (includedMembers img inc g).filter fun r => decide (0 < img.weight r)

/-- Whether a group can form a reference (R24, steps 2 to 4). -/
def canForm (img : Image) (inc : Chan → Bool) (g : Chan) : Bool :=
  img.isCouplingGroup g && decide (2 ≤ (includedMembers img inc g).length) &&
    decide (1 ≤ (contributingMembers img inc g).length)

/-! ### Reference, targets and errors (R25 to R33) -/

/-- The weighted mean of a quantity over channels, rounded once (R25, R31). -/
def weightedMean (img : Image) (rs : List Chan) (q : Chan → Int) : Int :=
  roundDiv (rs.map fun r => img.weight r * q r).sum (rs.map img.weight).sum

/-- Index speed (R25). -/
def indexSpeed (img : Image) (inc : Chan → Bool) (v : Chan → Int) (g : Chan) : Int :=
  weightedMean img (contributingMembers img inc g) fun r => |v r|

/-- Ratio of a roller at an index speed (R26). -/
def ratioAt (img : Image) (r : Chan) (x : Int) : Int :=
  if img.curveRef r = 0 then img.fixedRatio r else curveValue img (img.curveRef r) x

/-- Normalised speed (R30). -/
def normalised (v ratio : Int) : Int := roundDiv (v * 65536) ratio

/-- Reference of a group at an index speed (R31). -/
def groupReference (img : Image) (inc : Chan → Bool) (v : Chan → Int) (g : Chan) (x : Int) : Int :=
  weightedMean img (contributingMembers img inc g) fun r => normalised (v r) (ratioAt img r x)

/-- Target (R32). -/
def targetOf (uRef ratio : Int) : Int := roundDiv (uRef * ratio) 65536

/-- A roller's record with a reference (R24 step 3, R33). -/
def withReference (img : Image) (v : Chan → Int) (x uRef : Int) (r : Chan) (excluded : Bool) : RollerReference :=
  { excluded := excluded, included := true, ratio := ratioAt img r x, u := normalised (v r) (ratioAt img r x),
    t := targetOf uRef (ratioAt img r x), e := targetOf uRef (ratioAt img r x) - v r }

/-- A roller's record without a reference (R24). -/
def withoutReference (included excluded : Bool) : RollerReference := ⟨excluded, included, 0, 0, 0, 0⟩

/-! ### The stage (R24) -/

/-- The held speed of a channel. -/
def State.speed (s : State) (r : Chan) : Int := (s.acq.get r).v

/-- Whether group `g` can form a reference in this computation. -/
def State.formsReference (s : State) (g : Chan) : Bool := canForm s.active s.includesRoller g

/-- The index speed and reference a group forms in this computation. -/
def State.indexOf (s : State) (g : Chan) : Int := indexSpeed s.active s.includesRoller s.speed g

/-- The reference a group forms in this computation. -/
def State.referenceOf (s : State) (g : Chan) : Int :=
  groupReference s.active s.includesRoller s.speed g (s.indexOf g)

/-- Whether the GROUP_LOST cause of a group is present (R35). -/
def State.lostCause (s : State) (g : Chan) : Bool :=
  (s.coupling.get g).state.couples && !s.formsReference g

/-- A group's record after the stage (R22, R24, R35).
DESIGN CHOICE, unsafe: an empty or single-member group has index speed and reference 0, which R24 step 4 says of a
coupling group without a reference only (log entry 27). -/
def State.nextGroupRef (s : State) (g : Chan) : GroupReference :=
  { includedCount := (includedMembers s.active s.includesRoller g).length
    contributingCount := (contributingMembers s.active s.includesRoller g).length
    present := s.formsReference g
    x := if s.formsReference g then s.indexOf g else 0
    uRef := if s.formsReference g then s.referenceOf g else 0
    groupLost := s.lostCause g }

/-- A roller's record after the stage (R24, R34). -/
def State.nextRollerRef (s : State) (r : Chan) : RollerReference :=
  match s.active.groupOf r with
  | none => withoutReference (s.includesRoller r) (s.rollerRef.get r).excluded
  | some g =>
    if s.includesRoller r && s.formsReference g then
      withReference s.active s.speed (s.indexOf g) (s.referenceOf g) r (s.rollerRef.get r).excluded
    else withoutReference (s.includesRoller r) (s.rollerRef.get r).excluded

/-- The GROUP_LOST changes of the stage (R35). -/
def State.referenceReports (s : State) : List Report :=
  channels.flatMap fun g => causeChange .groupLost g (s.groupRef.get g).groupLost (s.lostCause g)

/-- The reference stage. -/
def State.referenceStage (s : State) : State :=
  ((s.withGroupRef (Quad.ofFn s.nextGroupRef)).withRollerRef (Quad.ofFn s.nextRollerRef)).takeReports
    s.referenceReports

end Sys2Proof.Machine
end

