-- ==== Sys2Proof/Machine/Coupling.lean ====
section
/-! DEFINITION. The coupling torque stage and the progress of the group cycle (R43 to R52, R55, R58). -/

namespace Sys2Proof.Machine

/-- Authority limit of a roller in a group's state at engage step `k` (R46). In RELEASING the held `k` gives the value
of the state the group left, since `k` stays at E in COUPLED (R55, R56). -/
def authority (img : Image) (g r : Chan) (c : GroupCoupling) : Nat :=
  match c.state with
  | .engaging => img.qlim r * c.step / img.engageCycles g
  | .coupled => img.qlim r
  | .releasing => img.qlim r * c.step / img.engageCycles g
  | .detached => 0
  | .suspended => 0

/-- The anti-windup test: the update of the accumulated error is skipped (R45). -/
def skipsUpdate (t : RollerTorque) (e : Int) : Bool :=
  (decide (0 < e) && (t.authSide == .upper || t.rangeSide == .upper)) ||
    (decide (e < 0) && (t.authSide == .lower || t.rangeSide == .lower))

/-- The accumulated error after its update or skip (R44). -/
def accumulate (t : RollerTorque) (e alim : Int) : Int :=
  if skipsUpdate t e then t.a else clamp (-alim) alim (t.a + e)

/-- The raw coupling torque (R46). -/
def rawTorque (kp ki e a : Int) : Int := roundDiv (kp * e * 256 + ki * a) 65536

/-- The authority clamp side of a raw torque (R46). -/
def clampSide (lo hi q : Int) : ClampSide := if hi < q then .upper else if q < lo then .lower else .none

/-- The slew limit; S = 0 means none (R47). -/
def slewed (prev q slew : Int) : Int := if slew = 0 then q else prev + clamp (-slew) slew (q - prev)

/-- Row 4 of R43: the coupling torque computation (R44 to R48). -/
def RollerTorque.couple (t : RollerTorque) (img : Image) (g r : Chan) (e : Int) (qeff : Nat) : RollerTorque :=
  let a := accumulate t e (img.alim g)
  let q := rawTorque (img.kp g) (img.ki g) e a
  { t with
    a := a
    authSide := clampSide (-qeff) qeff q
    qOut := clamp (-qeff) qeff (slewed t.qOut (clamp (-qeff) qeff q) (img.slew r))
    qeff := qeff }

/-- The release ramp of an included member: a is held (R49). -/
def RollerTorque.releaseRamp (t : RollerTorque) (step : Int) (qeff : Nat) : RollerTorque :=
  { t with qOut := rampStep step t.qOut, authSide := .none, qeff := qeff }

/-- The ramp-out of an excluded roller: a goes to 0 with its torque (R50). -/
def RollerTorque.rampOut (t : RollerTorque) (step : Int) (qeff : Nat) : RollerTorque :=
  { t with qOut := rampStep step t.qOut, a := if rampStep step t.qOut = 0 then 0 else t.a, authSide := .none,
           qeff := qeff }

/-- No coupling (R51). -/
def RollerTorque.uncoupled (t : RollerTorque) : RollerTorque := { t with qOut := 0, a := 0, authSide := .none, qeff := 0 }

/-- One roller settled by the first row of R43 that holds. -/
def RollerTorque.settle (t : RollerTorque) (img : Image) (g r : Chan) (c : GroupCoupling) (ref : RollerReference) :
    RollerTorque :=
  if !img.isCouplingGroup g then t.uncoupled
  else
    match c.state with
    | .detached => t.uncoupled
    | .suspended => t.uncoupled
    | .releasing =>
      if ref.included then t.releaseRamp (img.releaseStep g) (authority img g r c)
      else t.rampOut (img.releaseStep g) (authority img g r c)
    | .engaging =>
      if ref.included then t.couple img g r ref.e (authority img g r c)
      else t.rampOut (img.releaseStep g) (authority img g r c)
    | .coupled =>
      if ref.included then t.couple img g r ref.e (authority img g r c)
      else t.rampOut (img.releaseStep g) (authority img g r c)

/-- A channel's torque fields after its settling at this stage (R43). -/
def State.settledTorque (s : State) (r : Chan) : RollerTorque :=
  match s.active.groupOf r with
  | none => (s.torque.get r).uncoupled
  | some g => (s.torque.get r).settle s.active g r (s.coupling.get g) (s.rollerRef.get r)

/-- Whether group `g`'s release ends at this stage: RELEASING, and every member's settled torque is 0 (R58). -/
def State.releaseEnds (s : State) (g : Chan) : Bool :=
  (s.coupling.get g).state == .releasing && (s.active.members g).all fun r => (s.settledTorque r).qOut == 0

/-- A group's state after its members have been settled (R55, R58). -/
def State.advancedGroup (s : State) (g : Chan) : GroupCoupling :=
  let c := s.coupling.get g
  match c.state with
  | .engaging =>
    if !(s.groupRef.get g).present then c
    else if c.step < s.active.engageCycles g then { c with step := c.step + 1 } else { c with state := .coupled }
  | .releasing =>
    if s.releaseEnds g then ⟨if c.suspend then .suspended else .detached, 1, false⟩ else c
  | .coupled => c
  | .detached => c
  | .suspended => c

/-- A channel's torque fields after the stage: settled, and cleared where its group's release ended (R58). -/
def State.nextTorque (s : State) (r : Chan) : RollerTorque :=
  match s.active.groupOf r with
  | none => s.settledTorque r
  | some g => if s.releaseEnds g then { s.settledTorque r with a := 0, authSide := .none } else s.settledTorque r

/-- The coupling torque stage (R43). -/
def State.couplingStage (s : State) : State :=
  (s.withTorque (Quad.ofFn s.nextTorque)).withCoupling (Quad.ofFn s.advancedGroup)

end Sys2Proof.Machine
end

