-- ==== Sys2Proof/Machine/Composition.lean ====
section
/-! DEFINITION. The composition stage: sum, trim, clamp, saturation and substitution (R64 to R78). -/

namespace Sys2Proof.Machine

/-- The slot of a channel in the held slots (R66, R75, R132). At a computation for a cell Demand the held slots are
that Demand's (R133). -/
def State.slotFor (s : State) (r : Chan) : Slot :=
  match s.timer.held with
  | some held => held.get (slotPosition s.active r)
  | none => ⟨0, 0⟩

/-- The trimmed torque (R67). -/
def trimmed (t gain offset : Int) : Int := roundDiv (t * (262144 + gain) * 16 + offset * 262144) (262144 * 16)

/-- The trimmed torque of a channel in this computation (R66, R67). -/
def State.trimmedTorque (s : State) (r : Chan) : Int :=
  trimmed ((s.slotFor r).demand + (s.torque.get r).qOut) (s.active.gain r) (s.active.offset r)

/-- The composed torque of a channel (R68). -/
def State.composedTorque (s : State) (r : Chan) : Int := clamp (s.active.tmin r) (s.active.tmax r) (s.trimmedTorque r)

/-- The side on which the range clamp bites (R68). -/
def State.rangeBite (s : State) (r : Chan) : ClampSide := clampSide (s.active.tmin r) (s.active.tmax r) (s.trimmedTorque r)

/-- The reaction level of a roller's group (R65).
DEDUCED, unsafe: it is that of a single-member group too, so that SAFE substitutes every roller (R70, R75, R98, R104); R92's
"no effect on torque" is taken of the coupling torque (log entry 11). -/
def State.levelOfRoller (s : State) (r : Chan) : Level :=
  match s.active.groupOf r with
  | some g => s.reaction.levels.get g
  | none => .none

/-- Whether a commit copy changed a roller's Tmin, Tmax or Clear (R76). -/
def rangeChanged (old img : Image) (r : Chan) : Bool :=
  img.tmin r != old.tmin r || img.tmax r != old.tmax r || img.clearTorque r != old.clearTorque r

/-- The record after a commit copy, before the phase is set (R76). -/
def Composer.afterCommit (c : Composer) (old : Option Image) (img : Image) (r : Chan) : Composer :=
  match old with
  | none => c
  | some o =>
    let last := clamp (img.tmin r) (img.tmax r) c.lastWritten
    let start := clamp (img.tmin r) (img.tmax r) c.rampStart
    match c.phase with
    | .off => { c with lastWritten := last, rampStart := start }
    | .return_ => { c with lastWritten := last, rampStart := start }
    | .ramp =>
      if rangeChanged o img r then { c with phase := .ramp, lastWritten := last, rampStart := last }
      else { c with lastWritten := last, rampStart := start }
    | .atClear =>
      if rangeChanged o img r then { c with phase := .ramp, lastWritten := last, rampStart := last }
      else { c with lastWritten := last, rampStart := start }

/-- The record with the phase set for this stage by the group's level (R70). -/
def Composer.setPhase (c : Composer) (level : Level) : Composer :=
  if level = .safe then
    match c.phase with
    | .off => { c with phase := .ramp, rampStart := c.lastWritten }
    | .ramp => c
    | .atClear => c
    | .return_ => { c with phase := .ramp, rampStart := c.lastWritten }
  else
    match c.phase with
    | .off => c
    | .ramp => { c with phase := .return_ }
    | .atClear => { c with phase := .return_ }
    | .return_ => c

/-- The phases in which the range clamp counts (R68). -/
def Phase.counts (p : Phase) : Bool := p == .off || p == .return_

/-- The written torque of a stage (R71 to R73, R77), from the record with its phase set. -/
def Composer.writtenTorque (c : Composer) (composed clearTorque step : Int) : Int :=
  match c.phase with
  | .off => composed
  | .ramp => moveToward step clearTorque c.lastWritten
  | .atClear => clearTorque
  | .return_ => moveToward step composed c.lastWritten

/-- The phase at the end of a stage (R71, R73). -/
def Composer.endPhase (c : Composer) (composed clearTorque step : Int) : Phase :=
  match c.phase with
  | .off => .off
  | .ramp => if |clearTorque - c.lastWritten| ≤ step then .atClear else .ramp
  | .atClear => .atClear
  | .return_ => if |composed - c.lastWritten| ≤ step then .off else .return_

/-- The saturation run count after a stage (R69). -/
def runAfter (counted : Bool) (run : Nat) : Nat := if counted then satInc 255 run else 0

/-- The record with its phase set for this stage (R70, R76). -/
def State.phased (s : State) (old : Option Image) (r : Chan) : Composer :=
  ((s.composer.get r).afterCommit old s.active r).setPhase (s.levelOfRoller r)

/-- Whether the range clamp counts for a roller at this stage (R68, R69). -/
def State.clampCounts (s : State) (old : Option Image) (r : Chan) : Bool :=
  (s.phased old r).phase.counts && s.rangeBite r != .none

/-- A channel's composer record after the stage (R66 to R74). -/
def State.nextComposer (s : State) (old : Option Image) (r : Chan) : Composer :=
  let c := s.phased old r
  let phase := c.endPhase (s.composedTorque r) (s.active.clearTorque r) s.active.safeStep
  let run := runAfter (s.clampCounts old r) c.runCount
  { phase := phase
    lastWritten := c.writtenTorque (s.composedTorque r) (s.active.clearTorque r) s.active.safeStep
    rampStart := c.rampStart
    composed := s.composedTorque r
    runCount := run
    saturation := decide (s.active.nsat ≤ run)
    enable := if phase = .atClear then false else (s.slotFor r).enable }

/-- A channel's torque fields after the stage: range clamp side (R68) and clamped flag (R48). -/
def State.clampedTorque (s : State) (old : Option Image) (r : Chan) : RollerTorque :=
  { s.torque.get r with
    rangeSide := if (s.phased old r).phase.counts then s.rangeBite r else .none
    clamped := (s.torque.get r).authSide != .none || s.clampCounts old r }

/-- The TORQUE_SATURATION changes of the stage (R69). -/
def State.compositionReports (s : State) (old : Option Image) : List Report :=
  channels.flatMap fun r => causeChange .torqueSaturation r (s.composer.get r).saturation (s.nextComposer old r).saturation

/-- The composition stage (R65). `old` is the image a commit copy replaced at the start of this computation, if any. -/
def State.compositionStage (s : State) (old : Option Image) : State :=
  ((s.withComposer (Quad.ofFn (s.nextComposer old))).withTorque (Quad.ofFn (s.clampedTorque old))).takeReports
    (s.compositionReports old)

end Sys2Proof.Machine
end

