-- ==== Sys2Proof/Machine/Recording.lean ====
section
/-! DEFINITION. The history stage and the words of a history record (R107 to R114). -/

namespace Sys2Proof.Machine

/-- What the record of this computation holds of a roller (R108). -/
def State.rollerRecord (s : State) (r : Chan) : RollerRecord :=
  { v := (s.acq.get r).v
    e := if (s.rollerRef.get r).included then (s.rollerRef.get r).e else 0
    qOut := (s.torque.get r).qOut
    written := (s.composer.get r).lastWritten
    stale := (s.acq.get r).staleFlag
    included := (s.rollerRef.get r).included
    clamped := (s.torque.get r).clamped
    substituted := (s.composer.get r).phase != .off }

/-- The record of this computation (R108). -/
def State.cycleRecord (s : State) : CycleRecord := ⟨s.timer.cycleCount, Quad.ofFn s.rollerRecord⟩

/-- The ring with a record added as the newest, the oldest removed first when 64 are held (R109). -/
def addRecord (ring : List CycleRecord) (c : CycleRecord) : List CycleRecord :=
  (if Config.ringCapacity ≤ ring.length then ring.drop 1 else ring) ++ [c]

/-- The buffer after a history stage (R109). -/
def History.record (h : History) (c : CycleRecord) : History :=
  match h.state with
  | .recording => { h with ring := addRecord h.ring c }
  | .postTrigger =>
    { ring := addRecord h.ring c
      state := if h.remainder - 1 = 0 then .frozen else .postTrigger
      remainder := h.remainder - 1 }
  | .frozen => h

/-- The history stage (R109). -/
def State.historyStage (s : State) : State := s.withHistory (s.history.record s.cycleRecord)

/-- REARM (R113). -/
def History.rearm (_h : History) : History := History.reset

/-- A roller's flag value in word 17 (R108). -/
def RollerRecord.flags (c : RollerRecord) : Nat :=
  bitValue c.stale 0 + bitValue c.included 1 + bitValue c.clamped 2 + bitValue c.substituted 3

/-- The first 18 of a record's 32 words; words 18 to 31 are 0 (R108). -/
def CycleRecord.words (c : CycleRecord) : List Word :=
  c.count :: (channels.flatMap fun r =>
    [word (c.rollers.get r).v, word (c.rollers.get r).e, word (c.rollers.get r).qOut, word (c.rollers.get r).written]) ++
  [wordOfNat (channels.map fun r => (c.rollers.get r).flags * 16 ^ r.val).sum]

/-- Word `i` of object HISTORY (R114): 0 past the records held. -/
def State.historyWord (s : State) (i : Nat) : Word :=
  match s.history.ring[i / 32]? with
  | some c => c.words.getD (i % 32) 0
  | none => 0

end Sys2Proof.Machine
end

