-- ==== Sys2Proof/Machine/Reading.lean ====
section
/-! DEFINITION. The words READ and DESCRIBE return (R164 to R166, R170). -/

namespace Sys2Proof.Machine

/-- The part block of object RUNTIME (R165). -/
def partWords (s : State) : List Word :=
  [ wordOfNat s.timer.link.code,
    wordOfNat (match s.timer.deadline with | some d => d - s.clock | none => 0),
    s.timer.cycleCount,
    wordOfBool s.reaction.restart, wordOfBool s.faultLine, wordOfBool s.reaction.estopCause,
    wordOfBool s.images.setupLine,
    wordOfNat s.history.state.code, wordOfNat s.history.ring.length, wordOfNat s.history.remainder,
    wordOfNat s.images.liveLower, wordOfNat s.images.liveUpper,
    wordOfBool s.images.transfer.isOpen, wordOfNat s.images.transfer.first, wordOfNat s.images.transfer.last,
    word s.images.transfer.current, wordOfNat s.images.transfer.ignored,
    wordOfNat s.images.commit.state.code,
    wordOfBool s.storeWriting, wordOfBool s.images.calibrationValid,
    wordOfNat s.service.queue.length, wordOfBool s.service.overrun, s.service.lastRefusedTag.setWidth 32,
    wordOfNat s.images.pendingLive.length ]

/-- A group block of object RUNTIME (R165). -/
def groupWords (s : State) (g : Chan) : List Word :=
  [ wordOfNat (s.coupling.get g).state.code, wordOfNat (s.reaction.levels.get g).code,
    wordOfNat (s.coupling.get g).step, wordOfBool (s.coupling.get g).suspend,
    wordOfNat (s.groupRef.get g).includedCount, wordOfNat (s.groupRef.get g).contributingCount,
    wordOfBool (s.groupRef.get g).present, word (s.groupRef.get g).x, word (s.groupRef.get g).uRef,
    wordOfBool (s.groupRef.get g).groupLost, 0, 0 ]

/-- Block length M of a roller's group (R165). -/
def blockLengthOf (img : Image) (r : Chan) : Nat :=
  match img.groupOf r with
  | some g => img.blockLength g
  | none => 0

/-- A roller block of object RUNTIME (R165). -/
def rollerWords (s : State) (r : Chan) : List Word :=
  [ wordOfBool (s.acq.get r).seeded, (s.acq.get r).cLast, wordOfNat (s.acq.get r).k, word (s.acq.get r).v,
    wordOfNat (s.acq.get r).staleCount, wordOfNat (s.acq.get r).status.code, wordOfBool (s.acq.get r).staleFlag,
    wordOfBool (s.acq.get r).feedbackStale, wordOfBool (s.acq.get r).driveFault,
    wordOfBool (s.reaction.exclusions.get r),
    wordOfBool (s.rollerRef.get r).excluded, wordOfBool (s.rollerRef.get r).included, word (s.rollerRef.get r).ratio,
    word (s.rollerRef.get r).u, word (s.rollerRef.get r).t, word (s.rollerRef.get r).e,
    word (s.torque.get r).a, word (s.torque.get r).qOut, wordOfNat (s.torque.get r).qeff,
    wordOfNat (s.torque.get r).authSide.code, wordOfNat (s.torque.get r).rangeSide.code,
    wordOfNat (s.composer.get r).phase.code, word (s.composer.get r).lastWritten, word (s.composer.get r).rampStart,
    word (s.composer.get r).composed, wordOfNat (s.composer.get r).runCount, wordOfBool (s.composer.get r).saturation,
    wordOfBool (s.composer.get r).enable,
    wordOfBool (s.monitor.get r).monitored, word (s.monitor.get r).blockSum, wordOfNat (s.monitor.get r).blockFill,
    wordOfBool (s.monitor.get r).latest.isSome, word ((s.monitor.get r).latest.getD 0),
    wordOfNat (s.monitor.get r).persistence, wordOfBool (s.monitor.get r).syncWarn,
    wordOfBool (s.monitor.get r).syncFault, wordOfBool (s.monitor.get r).positionFault,
    wordOfNat (blockLengthOf s.active r), 0, 0 ]

/-- The 232 words of object RUNTIME (R165). -/
def runtimeWords (s : State) : List Word :=
  partWords s ++ channels.flatMap (groupWords s) ++ channels.flatMap (rollerWords s)

/-- The words of a Fault store entry (R93, R166). -/
def FaultEntry.words (f : FaultEntry) : List Word :=
  [ wordOfNat f.kind.code, wordOfNat f.scope.val, f.first, f.last, wordOfNat f.count, wordOfBool f.causePresent, 0, 0 ]

/-- Word `i` of object FAULTS (R166): 0 past the entries held. -/
def State.faultWord (s : State) (i : Nat) : Word :=
  match s.reaction.faults[i / 8]? with
  | some f => f.words.getD (i % 8) 0
  | none => 0

/-- The eight words of object COUNTERS (R166). -/
def counterWords (s : State) : List Word :=
  [ wordOfNat s.cellPort.demandErrors, wordOfNat s.drivePort.feedbackErrors ] ++
  channels.map (fun r => wordOfNat (s.acq.get r).lateCount) ++
  [ wordOfNat s.timer.resyncDrops, wordOfNat s.service.overruns ]

/-- The last index of an object, or none for an unknown object code (R164). -/
def lastIndex (object : Nat) : Option Nat :=
  match object with
  | 1 => some 253
  | 2 => some 253
  | 3 => some 231
  | 4 => some 287
  | 5 => some 7
  | 6 => some 2047
  | _ => none

/-- Word `i` of an object (R164). -/
def State.objectWord (s : State) (object i : Nat) : Word :=
  match object with
  | 1 => s.images.active.field i
  | 2 => s.images.staging.field i
  | 3 => (runtimeWords s).getD i 0
  | 4 => s.faultWord i
  | 5 => (counterWords s).getD i 0
  | 6 => s.historyWord i
  | _ => 0

/-- Whether a run of `count` words from `index` is in range of an object whose last index is given (R164, R170). -/
def runInRange (last index count : Nat) : Bool :=
  decide (1 ≤ count) && decide (count ≤ 8) && decide (index + count - 1 ≤ last)

/-- The response to a READ (R164). -/
def State.readResponse (s : State) (q : Request) : Response :=
  match lastIndex q.area.object.toNat with
  | none => respond q .refusedRange []
  | some last =>
    if runInRange last q.area.index.toNat q.area.count.toNat then
      respond q .done ((List.range q.area.count.toNat).map fun j =>
        s.objectWord q.area.object.toNat (q.area.index.toNat + j))
    else respond q .refusedRange []

/-- The 12 words of the unit's description (R170). -/
def describeWords (s : State) : List Word :=
  [ wordOfNat (1 * 65536 + 2), 2404, 1,
    wordOfNat (2 * 65536 + 2), wordOfBool s.images.calibrationValid,
    if s.images.calibrationValid then s.calibration.count else 0,
    wordOfNat (3 * 65536 + 1), wordOfNat Config.fieldCount,
    wordOfNat (4 * 65536 + 1), wordOfNat Config.queueCapacity,
    wordOfNat (5 * 65536 + 1), wordOfNat Config.ringCapacity ]

/-- The response to a DESCRIBE (R170). -/
def State.describeResponse (s : State) (q : Request) : Response :=
  if runInRange 11 q.area.index.toNat q.area.count.toNat then
    respond q .done ((List.range q.area.count.toNat).map fun j => (describeWords s).getD (q.area.index.toNat + j) 0)
  else respond q .refusedRange []

end Sys2Proof.Machine
end

