-- ==== Sys2Proof/Machine/Requests.lean ====
section
/-! DEFINITION. The requests the Image store performs, and the responses formed (R150 to R158, R162). -/

namespace Sys2Proof.Machine

/-- The head's response is formed and ready: progress PERFORMED (R161). -/
def State.answer (s : State) (p : Response) : State :=
  s.withService { s.service with ready := some p, progress := some .performed }

/-- The head's response, where there is a head to answer. -/
def State.answerHead (s : State) (f : Request → Response) : State :=
  match s.service.queue with
  | q :: _ => s.answer (f q)
  | [] => s

/-- Every group is DETACHED or SUSPENDED (R153, R158, R169). -/
def State.allAtRest (s : State) : Bool := channels.all fun g => (s.coupling.get g).state.atRest

/-! ### Transfers (R150 to R152) -/

/-- Whether a run of field indices contains a maintenance field. -/
def runHasMaintenance (first last : Nat) : Bool :=
  maintenanceFields.any fun i => decide (first ≤ i) && decide (i ≤ last)

/-- The outcome of an OPEN_TRANSFER, by the first test of R150 that holds. -/
def State.openOutcome (s : State) (first last : Nat) : Result :=
  if last < first ∨ 253 < last then .refusedRange
  else if s.images.transfer.isOpen then .refusedBusy
  else if runHasMaintenance first last && !s.images.setupLine then .refusedProtected
  else .done

/-- The transfer context after an OPEN_TRANSFER (R150). -/
def State.openedTransfer (s : State) (first last : Nat) : Transfer :=
  if s.openOutcome first last = .done then ⟨true, first, last, (first : Int) - 1, 0⟩ else s.images.transfer

/-- OPEN_TRANSFER (R150): the first index in the index field, the last in data word 0. -/
def State.performOpen (s : State) (q : Request) : State :=
  let first := q.area.index.toNat
  let last := (q.dataWord 0).toNat
  let t := s.openedTransfer first last
  (s.withImages { s.images with transfer := t }).answer
    (respond q (s.openOutcome first last) [word t.current, wordOfNat t.ignored])

/-- How many of `n` values of a TRANSFER_DATA have a field to land on (R151). -/
def Transfer.landing (t : Transfer) (n : Nat) : Nat := min n ((t.last : Int) - t.current).toNat

/-- The index the next value lands on. -/
def Transfer.next (t : Transfer) : Nat := (t.current + 1).toNat

/-- Whether any of the values landing would land on a maintenance field (R151). -/
def Transfer.landsOnMaintenance (t : Transfer) (n : Nat) : Bool :=
  decide (0 < t.landing n) && runHasMaintenance t.next (t.next + t.landing n - 1)

/-- The outcome of a TRANSFER_DATA of `n` values (R151). -/
def State.dataOutcome (s : State) (n : Nat) : Result :=
  if !s.images.transfer.isOpen then .refusedState
  else if n < 1 ∨ 8 < n then .refusedRange
  else if s.images.transfer.landsOnMaintenance n && !s.images.setupLine then .refusedProtected
  else .done

/-- The context after `n` values are taken: current steps on, values left over are ignored, and the run's end closes
it (R151). -/
def Transfer.advance (t : Transfer) (n : Nat) : Transfer :=
  { t with
    isOpen := decide (t.current + (t.landing n : Int) ≠ t.last)
    current := t.current + t.landing n
    ignored := t.ignored + (n - t.landing n) }

/-- Values written at successive indices from `at_` on. -/
def writeRun (img : Image) (at_ : Nat) : List Word → Image
  | [] => img
  | w :: ws => writeRun (img.put at_ w) (at_ + 1) ws

/-- The Image store after a TRANSFER_DATA of the request's values (R151). -/
def State.transferred (s : State) (q : Request) : ImageStore :=
  let n := q.area.count.toNat
  let t := s.images.transfer
  match s.dataOutcome n with
  | .done =>
    { s.images with staging := writeRun s.images.staging t.next ((List.range (t.landing n)).map q.dataWord)
                    transfer := t.advance n }
  | .refusedProtected => { s.images with transfer := { t with isOpen := false } }
  | _ => s.images

/-- TRANSFER_DATA (R151): the values in data words 0 to count - 1. -/
def State.performData (s : State) (q : Request) : State :=
  let images := s.transferred q
  (s.withImages images).answer
    (respond q (s.dataOutcome q.area.count.toNat)
      [word images.transfer.current, wordOfNat images.transfer.ignored, wordOfBool images.transfer.isOpen])

/-- CLOSE_TRANSFER (R152). -/
def State.performClose (s : State) (q : Request) : State :=
  if s.images.transfer.isOpen then
    (s.withImages { s.images with transfer := { s.images.transfer with isOpen := false } }).answer
      (respond q .done [word s.images.transfer.current, wordOfNat s.images.transfer.ignored])
  else s.answer (respond q .refusedState [])

/-! ### Commit (R153 to R155) -/

/-- The refusal of a COMMIT judged at once, or none when it is accepted (R153). -/
def State.commitRefusal (s : State) : Option Result :=
  if s.images.transfer.isOpen then some .refusedBusy
  else if !s.allAtRest then some .refusedState
  else if maintenanceDiffers s.images.staging s.images.active && !s.images.setupLine then some .refusedProtected
  else none

/-- COMMIT (R153): refused at once, or accepted with the expected check word from data word 0. -/
def State.performCommit (s : State) (q : Request) : State :=
  match s.commitRefusal with
  | some r => s.answer (respond q r [])
  | none =>
    s.withImages { s.images with
      commit := { s.images.commit with state := .checking, expected := q.dataWord 0, age := 0 } }

/-- The commit record after a check has found a CRC. -/
def State.withCheck (s : State) (state : CommitState) : State :=
  s.withImages { s.images with
    commit := { s.images.commit with state := state, computed := imageCrc s.images.staging } }

/-- The end of the check phase (R154). -/
def State.endCheck (s : State) : State :=
  let crc := (imageCrc s.images.staging).setWidth 32
  if s.images.commit.expected ≠ crc then
    (s.withCheck .none).answerHead fun q => respond q .refusedCheck [crc]
  else
    match validate s.images.staging with
    | some i =>
      (s.withCheck .none).answerHead fun q => { respond q .refusedInvalid [crc] with index := BitVec.ofNat 16 i }
    | none => s.withCheck .ready

/-- The check's end as an event: it occurs where a check is going on (R154). -/
def State.checkEnds (s : State) : State := if s.alive && s.images.commit.state == .checking then s.endCheck else s

/-- The commit copy, due when the commit state is READY (R155). -/
def State.commitCopy (s : State) : State :=
  if s.images.commit.state = .ready then
    (s.withImages { s.images with active := s.images.staging, commit := { s.images.commit with state := .none } }).answerHead
      fun q => respond q .done [s.images.commit.computed.setWidth 32, s.timer.cycleCount]
  else s

/-- The image a commit copy at this computation replaces, if one is due (R18, R76). -/
def State.replacedImage (s : State) : Option Image :=
  if s.images.commit.state = .ready then some s.images.active else none

/-! ### Live writes (R156, R157) -/

/-- An image with live values put in, in order. -/
def applyLive (img : Image) (values : List LiveValue) : Image := values.foldl (fun acc p => acc.put p.index p.value) img

/-- Whether a field lies within the Live window (R156). -/
def State.inLiveWindow (s : State) (f : Nat) : Bool := decide (s.images.liveLower < f) && decide (f < s.images.liveUpper)

/-- LIVE_WRITE (R157): the field in the index field, the value in data word 0. -/
def State.performLiveWrite (s : State) (q : Request) : State :=
  let f := q.area.index.toNat
  let values := s.images.pendingLive ++ [⟨f, q.dataWord 0⟩]
  if !s.inLiveWindow f then s.answer (respond q .refusedProtected [])
  else if !isLive f then s.answer (respond q .refusedProtected [])
  else
    match validate (applyLive s.images.active values) with
    | some i => s.answer { respond q .refusedInvalid [] with index := BitVec.ofNat 16 i }
    | none => (s.withImages { s.images with pendingLive := values }).answer (respond q .done [q.dataWord 0])

/-- The pending live writes applied to Active, the list emptied (R157). -/
def State.applyPendingLive (s : State) : State :=
  s.withImages { s.images with active := applyLive s.images.active s.images.pendingLive, pendingLive := [] }

/-- SET_LIVE_WINDOW (R156): the bounds in data words 0 and 1. -/
def State.performWindow (s : State) (q : Request) : State :=
  if !s.images.setupLine then s.answer (respond q .refusedProtected [])
  else if 254 < (q.dataWord 0).toNat ∨ 254 < (q.dataWord 1).toNat then s.answer (respond q .refusedRange [])
  else
    (s.withImages { s.images with liveLower := (q.dataWord 0).toNat, liveUpper := (q.dataWord 1).toNat }).answer
      (respond q .done [q.dataWord 0, q.dataWord 1])

/-! ### Calibration store (R158, R159) -/

/-- The refusal of a STORE_CALIBRATION, or none when it is accepted (R158). -/
def State.storeRefusal (s : State) : Option Result :=
  if !s.allAtRest then some .refusedState
  else if !s.images.setupLine then some .refusedProtected
  else none

/-- The new store count: the stored count plus 1 if Calibration valid was set, 1 otherwise (R158). Past the last value
of its range the spec states none: a free value, log entry 8. -/
def State.newStoreCount (s : State) : Word :=
  if s.images.calibrationValid then
    if s.calibration.count = 0xFFFFFFFF then Config.countPastMax s.draws else s.calibration.count + 1
  else 1

/-- STORE_CALIBRATION (R158): refused at once, or accepted and the write begun with Active's maintenance values. -/
def State.performStore (s : State) (q : Request) : State :=
  match s.storeRefusal with
  | some r => s.answer (respond q r [])
  | none =>
    (s.withImages { s.images with
      writing := some ⟨maintenanceValues s.images.active, s.newStoreCount⟩, calibrationValid := false }).withDraws
      (if s.images.calibrationValid && s.calibration.count == 0xFFFFFFFF then s.draws + 1 else s.draws)

/-- The end of a calibration store write (R159). -/
def State.endWrite (s : State) (w : CalibrationWrite) : State :=
  ((s.withCalibration ⟨w.fields, w.count, calibrationCrc w.fields w.count⟩).withImages
    { s.images with writing := none, calibrationValid := true }).answerHead fun q =>
      respond q .done [w.count, (calibrationCrc w.fields w.count).setWidth 32]

/-- The write's end as an event: it occurs where a write is going on (R159). -/
def State.writeEnds (s : State) : State :=
  match s.images.writing with
  | some w => if s.alive then s.endWrite w else s
  | none => s

end Sys2Proof.Machine
end

