-- ==== Sys2Proof/Machine/Functions.lean ====
section
/-! DEFINITION. The functions of a GROUP_CONTROL request: judged against the state before it and performed together
(R53 to R59, R100 to R103, R111, R113, R167, R168). -/

namespace Sys2Proof.Machine

/-! ### Judging (R53, R54, R56, R111, R167) -/

/-- Conditions 1 to 4 of R54. -/
def State.engageMayStart (s : State) (g : Chan) : Bool :=
  (s.coupling.get g).state == .detached && !s.reaction.restart &&
    decide ((s.reaction.levels.get g).code ≤ 1) && s.timer.link == .up

/-- The inclusion of a roller once its group's marks have been cleared (R23). -/
def State.includedUnmarked (s : State) (r : Chan) : Bool := includes s.active false r

/-- Condition 5 of R54: with the marks cleared, two included members and one contributing. -/
def State.engageHasMembers (s : State) (g : Chan) : Bool :=
  decide (2 ≤ (includedMembers s.active s.includedUnmarked g).length) &&
    decide (1 ≤ (contributingMembers s.active s.includedUnmarked g).length)

/-- Whether a function of the set `w` is performed (R167). -/
def State.passes (s : State) (w : Word) : GroupFunction → Bool
  | .engage g => s.engageMayStart g && s.engageHasMembers g && !inSet w (.release g)
  | .release g => (s.coupling.get g).state.couples && !inSet w (.engage g)
  | .clear _ => true
  | .clearPart => true
  | .capture => s.history.state == .recording
  | .rearm => true
  | .clearRestart => true

/-- Whether a function is in the set and performed. -/
def State.performs (s : State) (w : Word) (f : GroupFunction) : Bool := inSet w f && s.passes w f

/-- Whether a function is in the set and rejected. -/
def State.rejects (s : State) (w : Word) (f : GroupFunction) : Bool := inSet w f && !s.passes w f

/-! ### ENGAGE and RELEASE (R54, R56) -/

/-- Whether the excluded marks of group `g`'s members are cleared: an ENGAGE in the set, performed or rejected, and
conditions 1 to 4 hold (R54; R53 excepts the marks from "no effect"). -/
def State.clearsMarks (s : State) (w : Word) (g : Chan) : Bool := inSet w (.engage g) && s.engageMayStart g

/-- Whether roller `r`'s group satisfies a test. -/
def State.groupTest (s : State) (p : Chan → Bool) (r : Chan) : Bool :=
  match s.active.groupOf r with
  | some g => p g
  | none => false

/-- A group on entering ENGAGING (R54). -/
def GroupCoupling.engaged (_c : GroupCoupling) : GroupCoupling := ⟨.engaging, 1, false⟩

/-- A group on entering RELEASING by a RELEASE: k held, marker clear (R56). -/
def GroupCoupling.released (c : GroupCoupling) : GroupCoupling := { c with state := .releasing, suspend := false }

/-- A roller's torque fields on its group's entry into ENGAGING (R54, R42). -/
def RollerTorque.engaged (t : RollerTorque) : RollerTorque :=
  { t with a := 0, qOut := 0, authSide := .none, rangeSide := .none }

/-- A group's state after the ENGAGE and RELEASE functions of a set. -/
def State.steered (s : State) (w : Word) (g : Chan) : GroupCoupling :=
  if s.performs w (.engage g) then (s.coupling.get g).engaged
  else if s.performs w (.release g) then (s.coupling.get g).released
  else s.coupling.get g

/-- A group's reference record with its counts taken anew by an ENGAGE (R23, R54). -/
def State.recounted (s : State) (w : Word) (g : Chan) : GroupReference :=
  if s.clearsMarks w g then
    { s.groupRef.get g with
      includedCount := (includedMembers s.active s.includedUnmarked g).length
      contributingCount := (contributingMembers s.active s.includedUnmarked g).length }
  else s.groupRef.get g

/-- The ENGAGE and RELEASE functions of a set performed together (R54, R56). -/
def State.steerGroups (s : State) (w : Word) : State :=
  (((s.withCoupling (Quad.ofFn (s.steered w))).withGroupRef (Quad.ofFn (s.recounted w))).withRollerRef
    (Quad.ofFn fun r =>
      { s.rollerRef.get r with
        excluded := (s.rollerRef.get r).excluded && !s.groupTest (s.clearsMarks w) r })).withTorque
    (Quad.ofFn fun r =>
      if s.groupTest (fun g => s.performs w (.engage g)) r then (s.torque.get r).engaged else s.torque.get r)

/-! ### CLEAR and CLEAR_PART (R100 to R102, R59) -/

/-- Whether an entry is removed: its cause is absent, and CLEAR_PART covers it as part-wide or a CLEAR covers its
group (R100, R101). -/
def removable (img : Image) (w : Word) (f : FaultEntry) : Bool :=
  !f.causePresent &&
    match f.kind.scopeKind with
    | .part => inSet w .clearPart
    | .group => inSet w (.clear f.scope)
    | .roller =>
      match img.groupOf f.scope with
      | some g => inSet w (.clear g)
      | none => false

/-- The level of a group worked out again from a store: the greatest configured level among the entries that apply
to it (R102). -/
def State.recomputedLevel (s : State) (faults : List FaultEntry) (g : Chan) : Level :=
  (faults.filter fun f => appliesTo s.active f.kind f.scope g).foldl (fun acc f => acc.max (s.configuredLevel f.kind)) .none

/-- Whether a set holds a CLEAR or a CLEAR_PART. -/
def clears (w : Word) : Bool := inSet w .clearPart || channels.any fun g => inSet w (.clear g)

/-- A SUSPENDED group named by its own CLEAR is detached at NONE or NOTE (R59). -/
def State.detachCleared (s : State) (w : Word) : State :=
  s.withCoupling (Quad.ofFn fun g =>
    if inSet w (.clear g) && (s.coupling.get g).state == .suspended && decide ((s.reaction.levels.get g).code ≤ 1) then
      { s.coupling.get g with state := .detached }
    else s.coupling.get g)

/-- The removals of a set, one recomputation of every level, and the detachments (R100 to R102, R59). -/
def State.clearFaults (s : State) (w : Word) : State :=
  if clears w then
    let kept := s.reaction.faults.filter fun f => !removable s.active w f
    ((s.withReaction { s.reaction with faults := kept }).setLevels (Quad.ofFn (s.recomputedLevel kept))).detachCleared w
  else s

/-! ### History and Restart (R103, R111, R113) -/

/-- REARM, then a CAPTURE that passed (R111, R113). -/
def State.steerHistory (s : State) (w : Word) (captures : Bool) : State :=
  let h := if inSet w .rearm then s.history.rearm else s.history
  s.withHistory (if captures then h.trigger s.active.postTrigger else h)

/-- CLEAR_RESTART (R103). -/
def State.clearRestartFlag (s : State) (w : Word) : State :=
  if inSet w .clearRestart then s.withReaction { s.reaction with restart := false } else s

/-! ### The set as a whole (R53, R168) -/

/-- The functions of a set that pass, performed together. -/
def State.performSet (s : State) (w : Word) : State :=
  (((s.steerGroups w).clearFaults w).steerHistory w (s.performs w .capture)).clearRestartFlag w

/-- The outcome of a set (R168). -/
def setOutcome (performed rejected : Word) : Result :=
  if rejected = 0 then .done else if performed = 0 then .refusedState else .partial_

/-- The response of a GROUP_CONTROL, from the state its functions are judged against (R168). -/
def State.setResponse (s : State) (q : Request) : Response :=
  let w := q.dataWord 0
  respond q (setOutcome (setOf (s.performs w)) (setOf (s.rejects w)))
    [setOf (s.performs w), setOf (s.rejects w), 0, s.timer.cycleCount]

/-- The group-function point of a computation's start: a GROUP_CONTROL waiting at the head is judged and performed,
and its response is formed (R167, R168). -/
def State.groupFunctionPoint (s : State) : State :=
  match s.service.queue, s.service.progress with
  | q :: _, some .waiting => if q.code = 8 then (s.performSet (q.dataWord 0)).answer (s.setResponse q) else s
  | _, _ => s

end Sys2Proof.Machine
end

