-- ==== Sys2Proof/Machine/Serving.lean ====
section
/-! DEFINITION. The Service queue: hand-over, performance of the head and the queue's advance (R160 to R163, R169). -/

namespace Sys2Proof.Machine

/-- RESTART at the head (R169). -/
def State.performRestart (s : State) (q : Request) : State :=
  if s.allAtRest then s.answer (respond q .done []) else s.answer (respond q .refusedState [])

/-- GROUP_CONTROL at the head: refused at once if bits 16 to 31 are set; otherwise it waits for a computation (R167). -/
def State.performControl (s : State) (q : Request) : State :=
  if q.dataWord 0 >>> 16 ≠ 0 then s.answer (respond q .refusedRange []) else s

/-- A request performed as the head, by its kind code (R162). -/
def State.performKind (s : State) (q : Request) : State :=
  match q.code with
  | 1 => s.answer (s.readResponse q)
  | 2 => s.performOpen q
  | 3 => s.performData q
  | 4 => s.performClose q
  | 5 => s.performCommit q
  | 6 => s.performLiveWrite q
  | 7 => s.performWindow q
  | 8 => s.performControl q
  | 9 => s.performStore q
  | 10 => s.performRestart q
  | 11 => s.answer (s.describeResponse q)
  | _ => s.answer (respond q .unknownKind [])

/-- The oldest entry becomes the head and its performance begins (R161). -/
def State.performHead (s : State) : State :=
  match s.service.queue with
  | [] => s.withService { s.service with progress := none, ready := none }
  | q :: _ => (s.withService { s.service with progress := some .waiting, ready := none }).performKind q

/-- A request refused for a full queue (R160). -/
def State.overrunRequest (s : State) (q : Request) : State :=
  s.withService { s.service with
    overrun := true, lastRefusedTag := q.area.tag, overruns := satInc 65535 s.service.overruns }

/-- A request taken: appended as the newest entry, the Overrun flag cleared (R160). -/
def State.appendRequest (s : State) (q : Request) : State :=
  s.withService { s.service with queue := s.service.queue ++ [q], overrun := false }

/-- A request handed over: taken, and performed at once where it becomes the head, or refused as an overrun (R160, R161). -/
def State.handOver (s : State) (q : Request) : State :=
  if s.service.queue.length < Config.queueCapacity then
    if s.service.queue = [] then (s.appendRequest q).performHead else s.appendRequest q
  else s.overrunRequest q

/-- A ready response is carried: the head becomes ANSWERED (R129, R161). -/
def State.carried (s : State) : State := s.withService { s.service with progress := some .answered }

/-- The head whose response has gone up leaves the queue, and the next entry becomes the head (R161). -/
def State.advanceQueue (s : State) : State :=
  (s.withService { s.service with queue := s.service.queue.drop 1, progress := none, ready := none }).performHead

/-- Whether the response that has gone up is an accepted RESTART's DONE (R169). -/
def State.restartDue (s : State) : Bool :=
  match s.service.queue, s.service.ready with
  | q :: _, some p => q.code == 10 && p.outcome == .done
  | _, _ => false

end Sys2Proof.Machine
end

