-- ==== Sys2Proof/Machine/Passage.lean ====
section
/-! DEFINITION. Telegrams in passage up to the computation a good Demand starts: link states, both ports' sequences and
insertion into a Feedback (R120 to R123, R126 to R131, R134, R135, R139, R140). -/

namespace Sys2Proof.Machine

/-! ### Link state (R134, R135, R139, R140) -/

/-- A valid Demand is told to the Cycle timer at the moment its reception completed: the link is UP and the deadline
is set (R134, R135, R139); a return from LOST cancels the substitute expiry and ends the LINK_LOST cause.
DESIGN CHOICE, unsafe: the link timeout and the period are those of Active when the passage begins. For a Demand that
waited, a commit copy can fall between its reception and that moment (log entry 29). -/
def State.validDemand (s : State) (moment : Nat) : State :=
  let s1 := s.withTimer { s.timer with
    link := .up, nextExpiry := none, deadline := some (moment + s.active.linkTimeout * s.active.period) }
  if s.timer.link = .lost then s1.causeEnds .linkLost 0 else s1

/-- A substitute telegram has not yet begun transmission (R140). -/
def State.substituteReady (s : State) : Bool := s.drivePort.ready.any fun o => o.origin == .substitute

/-- The drop test of a returning Demand, from the state in which the link is still LOST (R140): a substitute
computation is running or its telegram is not yet being transmitted, or the last transmission is less than half a period
old. A transmission that begins after the moment counts as not yet begun. The half period is Active's when the
passage begins (log entry 29). -/
def State.dropsDemand (s : State) (moment : Nat) : Bool :=
  s.timer.link == .lost &&
    (s.timer.computing == some .substitute || s.substituteReady ||
      match s.drivePort.lastTx with
      | some t => decide (moment < t + s.active.period / 2)
      | none => false)

/-- A Demand dropped by the resynchronisation rule (R140). -/
def State.countDrop (s : State) : State :=
  s.withTimer { s.timer with resyncDrops := satInc 65535 s.timer.resyncDrops }

/-- The deadline's expiry in UP (R135). -/
def State.deadlineExpires (s : State) (deadline : Nat) : State :=
  let now := max s.clock deadline
  let s1 := ((s.withClock now).withTimer { s.timer with link := .lost, deadline := none }).occurrence .linkLost 0
  s1.withTimer { s1.timer with nextExpiry := some now }

/-- The deadline's moment as an event: it occurs in UP (R132, R135). -/
def State.deadlineComes (s : State) : State :=
  match s.timer.link, s.timer.deadline with
  | .up, some d => if s.alive then s.deadlineExpires d else s
  | _, _ => s

/-! ### A Demand's passage (R120, R123, R126) -/

/-- A Demand with a bad check word: counted, reported, and forwarded poisoned unless it is shorter than 3 bytes
(R120, R126, R131). -/
def State.badDemand (s : State) (bytes : List Byte) : State :=
  let s1 := (s.withCellPort { s.cellPort with demandErrors := satInc 65535 s.cellPort.demandErrors }).occurrence .demandCheck 0
  if bytes.length < 3 then s1 else s1.driveReady ⟨.poisoned, poison bytes⟩ s.clock

/-- A request area with destination PART is handed to the Service unit (R123, R125). -/
def State.takeRequest (s : State) (bytes : List Byte) : State :=
  if destinationOf bytes = 1 then s.handOver (requestOf bytes) else s

/-- A good Demand's passage has reached its computation (R123, step 4). -/
def State.accept (s : State) (bytes : List Byte) : State := s.withCellPort { s.cellPort with accepted := some bytes }

/-- A good Demand's passage up to its computation: the Cycle timer is told, the drop rule is applied, and the request is
handed over (R123, steps 1 to 3). `received` is the moment its reception completed. -/
def State.goodDemandPassage (s : State) (bytes : List Byte) (received : Nat) : State :=
  if s.dropsDemand received then (s.validDemand received).countDrop
  else ((s.validDemand received).takeRequest bytes).accept bytes

/-- A Demand's passage begins (R120). -/
def State.demandPassage (s : State) (bytes : List Byte) (received : Nat) : State :=
  if goodDemand bytes then s.goodDemandPassage bytes received else s.badDemand bytes

/-- A telegram received at the Cell port is in passage: its computation is running or awaited, or it is being sent or is
ready at the Drive port (R120, R123). -/
def State.demandInPassage (s : State) : Bool :=
  s.cellPort.accepted.isSome || (s.drivePort.sending.toList ++ s.drivePort.ready).any fun o => o.origin != .substitute

/-- A complete reception at the Cell port: its passage begins, or it waits, replacing a waiting one (R120). -/
def State.receiveDemand (s : State) (bytes : List Byte) : State :=
  if s.demandInPassage then s.withCellPort { s.cellPort with waiting := some ⟨bytes, s.clock⟩ }
  else s.demandPassage bytes s.clock

/-- The next telegram ready at the Drive port begins its transmission (R121).
DESIGN CHOICE, unsafe: it begins at the very moment the telegram before it has been sent (log entry 28). -/
def State.sendNext (s : State) : State :=
  match s.drivePort.ready with
  | [] => s
  | o :: rest => (s.withDrivePort { s.drivePort with ready := rest }).transmit o s.clock

/-- A Demand waiting at the Cell port begins its passage once none is in passage (R120). -/
def State.beginWaitingDemand (s : State) : State :=
  match s.cellPort.waiting with
  | none => s
  | some d =>
    if s.demandInPassage then s
    else (s.withCellPort { s.cellPort with waiting := none }).demandPassage d.bytes d.moment

/-- The Drive port completes sending a telegram: the next ready one follows, and a waiting Demand's passage begins
where the passage of the one before it has ended (R120, R121). -/
def State.finishDemand (s : State) : State :=
  match s.drivePort.sending with
  | none => s
  | some _ => ((s.withDrivePort { s.drivePort with sending := none }).sendNext).beginWaitingDemand

/-! ### A Feedback's passage (R127 to R130) -/

/-- Whether the unit's response is carried by a Feedback: the area is free and a response is ready (R129). -/
def State.carriesResponse (s : State) (bytes : List Byte) : Bool :=
  responseSource bytes == 0 && s.service.progress == some .performed && s.service.ready.isSome

/-- The response area of the Feedback sent up (R129). -/
def State.responseArea (s : State) (bytes : List Byte) : List Byte :=
  match s.service.ready with
  | some p => if s.carriesResponse bytes then responseBytes p else (bytes.drop 73).take 39
  | none => (bytes.drop 73).take 39

/-- The last sent sequence as a Feedback shows it: 0 when none has been sent (R127). -/
def State.sentSequence (s : State) : Half :=
  match s.drivePort.lastSeq with
  | some q => q
  | none => 0

/-- A good Feedback with the unit's insertions (R127, step 2). -/
def State.insertedFeedback (s : State) (bytes : List Byte) : List Byte :=
  sealed (bytes.take 2 ++ bytesOfHalf s.sentSequence ++ (bytes.drop 4).take 36 ++ statusBlock s ++ s.responseArea bytes)

/-- A telegram is sent up from the Cell port. -/
def State.sendUp (s : State) (bytes : List Byte) (carries : Bool) : State :=
  s.withCellPort { s.cellPort with sending := some ⟨bytes, carries⟩ }

/-- The insertion and transmission of a good Feedback (R127, steps 2 and 3). -/
def State.insertAndSend (s : State) (bytes : List Byte) : State :=
  if s.carriesResponse bytes then (s.sendUp (s.insertedFeedback bytes) true).carried
  else s.sendUp (s.insertedFeedback bytes) false

/-- A Feedback with a bad check word: counted, reported, and forwarded poisoned unless it is shorter than 3 bytes
(R120, R130, R131). -/
def State.badFeedback (s : State) (bytes : List Byte) : State :=
  let s1 := (s.withDrivePort { s.drivePort with
    feedbackErrors := satInc 65535 s.drivePort.feedbackErrors }).occurrence .feedbackCheck 0
  if bytes.length < 3 then s1 else s1.sendUp (poison bytes) false

/-- A Feedback's passage begins (R127, R130). -/
def State.feedbackPassage (s : State) (bytes : List Byte) : State :=
  if goodFeedback bytes then (s.examineSlots bytes).insertAndSend bytes else s.badFeedback bytes

/-- A complete reception at the Drive port: its passage begins, or it waits, replacing a waiting one (R120). -/
def State.receiveFeedback (s : State) (bytes : List Byte) : State :=
  match s.cellPort.sending with
  | some _ => s.withDrivePort { s.drivePort with waiting := some bytes }
  | none => s.feedbackPassage bytes

/-- A Feedback waiting at the Drive port begins its passage (R120). -/
def State.beginWaitingFeedback (s : State) : State :=
  match s.drivePort.waiting with
  | none => s
  | some bytes => (s.withDrivePort { s.drivePort with waiting := none }).feedbackPassage bytes

/-- The reset that follows an accepted RESTART's DONE, like a pulse on the RESET input (R169). -/
def State.restartReset (s : State) : State := s.resetBlocks.endReset

/-- The Cell port completes sending a telegram: a carried response is complete, and the next waiting Feedback's
passage begins (R120, R129, R161, R169). -/
def State.finishFeedback (s : State) : State :=
  match s.cellPort.sending with
  | none => s
  | some sent =>
    let s1 := s.withCellPort { s.cellPort with sending := none }
    if sent.carries then
      if s.restartDue then s1.restartReset else s1.advanceQueue.beginWaitingFeedback
    else s1.beginWaitingFeedback

end Sys2Proof.Machine
end

