-- ==== Sys2Proof/Machine/Meanwhile.lean ====
section
/-! DEFINITION. Events during a cycle computation, each taken between two stages (R96, R104, R133, R140, R161, R163;
log entry 3). -/

namespace Sys2Proof.Machine

/-- What an event does. A good Demand's passage goes up to its computation, which waits for the running one (R133). -/
def State.happens (s : State) : Event → State
  | .estopAssert => s.assertEstop
  | .estopRelease => s.releaseEstop
  | .setupChange active => s.changeSetup active
  | .demandReception bytes => s.receiveDemand bytes
  | .demandSent => s.finishDemand
  | .feedbackReception bytes => s.receiveFeedback bytes
  | .feedbackSent => s.finishFeedback
  | .deadlineExpiry => s.deadlineComes
  | .commitCheckEnd => s.checkEnds
  | .calibrationWriteEnd => s.writeEnds

/-- An event during a computation. Once a reset has abandoned the computation none of its events follows (R122, R142). -/
def State.takeEvent (s : State) (e : MidEvent) : State :=
  if s.timer.computing.isSome then (s.tick e.elapsed).happens e.event else s

/-- The events that come at one point of a computation, in their order. -/
def State.takeEvents (s : State) (during : List MidEvent) (point : Nat) : State :=
  (during.filter fun e => e.point == point).foldl State.takeEvent s

/-- A stage runs unless a reset has abandoned the computation (R122, R142). -/
def State.runStage (s : State) (stage : State → State) : State := if s.timer.computing.isSome then stage s else s

/-- Stages run in order from a point on, with the events that come before each and after the last (R161). -/
def State.runFrom (during : List MidEvent) : List (State → State) → Nat → State → State
  | [], point, s => s.takeEvents during point
  | stage :: stages, point, s => State.runFrom during stages (point + 1) ((s.takeEvents during point).runStage stage)

end Sys2Proof.Machine
end

