-- ==== Sys2Proof/Machine/Monitoring.lean ====
section
/-! DEFINITION. The deviation monitoring stage (R79 to R88). -/

namespace Sys2Proof.Machine

/-- Whether the monitor acts on a roller: its group is COUPLED and it is included (R80). -/
def State.monitors (s : State) (r : Chan) : Bool :=
  match s.active.groupOf r with
  | some g => (s.coupling.get g).state == .coupled && (s.rollerRef.get r).included
  | none => false

/-- The record with an error added to its block, and a result formed when the block is full (R81). -/
def Monitor.addError (m : Monitor) (e : Int) (length : Nat) : Monitor :=
  if m.blockFill + 1 = length then
    { m with blockSum := 0, blockFill := 0, latest := some (truncDiv (m.blockSum + e) length) }
  else { m with blockSum := m.blockSum + e, blockFill := m.blockFill + 1 }

/-- Whether this stage's error fills the block. -/
def Monitor.fills (m : Monitor) (length : Nat) : Bool := m.blockFill + 1 == length

/-- Whether a latest result lies outside W1 (R82). -/
def outside (latest : Option Int) (w : Int) : Bool :=
  match latest with
  | some m => decide (w < |m|)
  | none => false

/-- Persistence count and SYNC_FAULT cause after a block result (R83). -/
def Monitor.judge (m : Monitor) (w2 : Int) (persistence : Nat) : Monitor :=
  if outside m.latest w2 then
    { m with persistence := satInc 255 m.persistence
             syncFault := if persistence ≤ satInc 255 m.persistence then true else m.syncFault }
  else { m with persistence := 0, syncFault := false }

/-- The record of a monitored roller after the stage (R81 to R84). -/
def Monitor.observe (m : Monitor) (img : Image) (g : Chan) (e a : Int) : Monitor :=
  let b := m.addError e (img.blockLength g)
  let c := if m.fills (img.blockLength g) then b.judge (img.w2 g) (img.persistence g) else b
  { c with monitored := true
           syncWarn := outside c.latest (img.w1 g)
           positionFault := decide (img.afault g < |a|) }

/-- A channel's monitor record after the stage: monitored, or cleared (R80). -/
def State.nextMonitor (s : State) (r : Chan) : Monitor :=
  match s.active.groupOf r with
  | none => Monitor.reset
  | some g =>
    if s.monitors r then (s.monitor.get r).observe s.active g (s.rollerRef.get r).e (s.torque.get r).a
    else Monitor.reset

/-- The cause changes of the stage (R80, R82 to R84). -/
def State.monitoringReports (s : State) : List Report :=
  channels.flatMap fun r =>
    causeChange .syncWarn r (s.monitor.get r).syncWarn (s.nextMonitor r).syncWarn ++
    causeChange .syncFault r (s.monitor.get r).syncFault (s.nextMonitor r).syncFault ++
    causeChange .positionFault r (s.monitor.get r).positionFault (s.nextMonitor r).positionFault

/-- The deviation monitoring stage: every roller by the group states at its start, then the reports (R86). -/
def State.monitoringStage (s : State) : State :=
  (s.withMonitor (Quad.ofFn s.nextMonitor)).takeReports s.monitoringReports

end Sys2Proof.Machine
end

