-- ==== Sys2Proof/Machine/Cycle.lean ====
section
/-! DEFINITION. The cycle computation: the work at its start and its six stages, with the events
between them (R133, R154, R155, R157, R99, R53, R161). -/

namespace Sys2Proof.Machine

/-- What started a computation (R133). -/
inductive CycleStart where
  /-- a good cell Demand that is not dropped, with its slots -/
  | cell (slots : Quad Slot)
  /-- a substitute expiry, at its moment -/
  | substitute (expiry : Nat)
  deriving DecidableEq, Repr

/-- The computations begun since a COMMIT's acceptance are counted, and a check still going on ends before the start
of the eighth (R154). Log entry 20. -/
def State.countCheck (s : State) : State :=
  if s.images.commit.state = .checking then
    let c := { s.images.commit with age := s.images.commit.age + 1 }
    if Config.checkCycles ≤ c.age then (s.withImages { s.images with commit := c }).endCheck
    else s.withImages { s.images with commit := c }
  else s

/-- The computation is running, the cycle count advances, and a cell Demand's slots are copied into the held slots
(R133). -/
def State.advanceCycle (s : State) : CycleStart → State
  | .cell slots =>
    s.withTimer { s.timer with
      cycleCount := s.timer.cycleCount + 1, held := some slots, computing := some .cell }
  | .substitute _ =>
    s.withTimer { s.timer with cycleCount := s.timer.cycleCount + 1, computing := some .substitute }

/-- The next substitute expiry, one nominal period of Active after this one's moment (R136). -/
def State.scheduleNext (s : State) : CycleStart → State
  | .cell _ => s
  | .substitute expiry => s.withTimer { s.timer with nextExpiry := some (expiry + s.active.period) }

/-- The pending exclusions take effect and are cleared (R99, R15, R23). -/
def State.applyExclusions (s : State) : State :=
  ((s.withRollerRef (Quad.ofFn fun r =>
      { s.rollerRef.get r with excluded := (s.rollerRef.get r).excluded || s.reaction.exclusions.get r })).withAcq
    (Quad.ofFn fun r =>
      if s.reaction.exclusions.get r then { s.acq.get r with staleCount := 0 } else s.acq.get r)).withReaction
    { s.reaction with exclusions := Quad.all false }

/-- The state in which a computation's commit copy is due or not: the check counted, the cycle count advanced and the
pending live writes applied (R133, R154, R157). -/
def State.beginCycle (s : State) (start : CycleStart) : State := ((s.countCheck).advanceCycle start).applyPendingLive

/-- The work at the start of a computation up to the group functions, in its order (R133, R157, R155, R136, R99). -/
def State.startWork (s : State) (start : CycleStart) : State :=
  (((s.beginCycle start).commitCopy).scheduleNext start).applyExclusions

/-- The work at the start of a computation (R53). -/
def State.startCycle (s : State) (start : CycleStart) : State := (s.startWork start).groupFunctionPoint

/-- The six stages in their order (section 1.4 of the introduction). `old` is the image a commit copy replaced, if any,
and `sent` says whether the Drive port had sent a sequence before the computation. -/
def cycleStages (old : Option Image) (sent : Bool) : List (State → State) :=
  [fun s => s.speedSettling old sent, State.referenceStage, State.couplingStage, fun s => s.compositionStage old,
    State.monitoringStage, State.historyStage]

/-- One cycle computation up to the end of its last stage. `point` is the point at which its events begin. -/
def State.computeCycle (s : State) (start : CycleStart) (during : List MidEvent) (point : Nat) : State :=
  State.runFrom during (cycleStages (s.beginCycle start).replacedImage s.drivePort.lastSeq.isSome) point
    (s.startCycle start)

/-- The computation has ended (R133). -/
def State.endCycle (s : State) : State := s.withTimer { s.timer with computing := none }

end Sys2Proof.Machine
end

