-- ==== Sys2Proof/Machine/Telegrams.lean ====
section
/-! DEFINITION. From a computation to its telegram: editing, substitute telegrams, and the computations the commands run
(R123 to R125, R133, R136, R137). -/

namespace Sys2Proof.Machine

/-! ### Editing a Demand (R124, R125, R137) -/

/-- The three bytes of slot `p`: the composed channel's written torque and ENABLE, the other flags as given. -/
def State.slotBytes (s : State) (slots : Quad Slot) (p : Chan) : List Byte :=
  match channelAt s.active p with
  | some r =>
    bytesOfHalf (BitVec.ofInt 16 (s.composer.get r).lastWritten) ++
      [withEnable (slots.get p).flags (s.composer.get r).enable]
  | none => bytesOfHalf (slots.get p).torque ++ [(slots.get p).flags]

/-- The request area of the forwarded telegram: emptied for destination PART, unchanged otherwise (R125). -/
def forwardedArea (bytes : List Byte) : List Byte :=
  if destinationOf bytes = 1 then emptyArea else (bytes.drop 16).take 39

/-- A good Demand edited after its computation (R124, R125). -/
def State.editedDemand (s : State) (bytes : List Byte) : List Byte :=
  sealed (bytes.take 4 ++ channels.flatMap (s.slotBytes (demandSlots bytes)) ++ forwardedArea bytes)

/-- The sequence of a substitute Demand (R137). -/
def State.substituteSequence (s : State) : Half :=
  match s.drivePort.lastSeq with
  | some q => q + 1
  | none => 0

/-- The held slots, four empty slots where none are held. -/
def State.heldSlots (s : State) : Quad Slot :=
  match s.timer.held with
  | some held => held
  | none => Quad.all ⟨0, 0⟩

/-- The telegram of a substitute computation (R137). -/
def State.substituteDemand (s : State) : List Byte :=
  sealed ([1, 1] ++ bytesOfHalf s.substituteSequence ++ channels.flatMap (s.slotBytes s.heldSlots) ++ emptyArea)

/-! ### Computations (R123, R133, R136) -/

/-- A computation ends with its telegram handed to the Drive port; an abandoned one hands over nothing (R122, R133,
R142). -/
def State.handDown (s : State) (origin : DemandOrigin) (bytes : List Byte) (latency : Nat) : State :=
  if s.timer.computing.isSome then s.endCycle.driveReady ⟨origin, bytes⟩ (s.clock + latency) else s

/-- The edited Demand of a computation is handed to the Drive port, and is no longer awaited (R123, steps 5 and 6). -/
def State.sendEdited (s : State) (bytes : List Byte) (latency : Nat) : State :=
  (s.withCellPort { s.cellPort with accepted := none }).handDown .edited (s.editedDemand bytes) latency

/-- A good Demand's computation, editing and transmission (R123, steps 4 to 6). -/
def State.processDemand (s : State) (bytes : List Byte) (course : Course) (point : Nat) : State :=
  (s.computeCycle (.cell (demandSlots bytes)) course.during point).sendEdited bytes course.latency

/-- A Demand whose passage has reached its computation is processed, unless another computation is running (R133). -/
def State.runAccepted (s : State) (course : Course) (point : Nat) : State :=
  match s.cellPort.accepted, s.timer.computing with
  | some bytes, none => s.processDemand bytes course point
  | _, _ => s

/-- The reception of a telegram at the Cell port with all it leads to, while the unit takes telegrams (R120, R122). -/
def State.demandComes (s : State) (elapsed : Nat) (course : Course) (bytes : List Byte) : State :=
  if s.alive then ((s.tick elapsed).receiveDemand bytes).runAccepted course 0 else s.tick elapsed

/-- A substitute expiry in LOST: its computation runs, its telegram is built and sent, and a Demand accepted meanwhile is
processed after it (R133, R136, R137).
DESIGN CHOICE, unsafe: the substitute's transmission, with its sequence, its moment and its window, begins before the
computation of the Demand that waited, whose settling closes that window (log entry 33). -/
def State.substituteExpires (s : State) (expiry : Nat) (course : Course) : State :=
  let s1 := (s.withClock (max s.clock expiry)).computeCycle (.substitute expiry) course.during 0
  (s1.handDown .substitute s1.substituteDemand course.latency).runAccepted course 7

end Sys2Proof.Machine
end

