-- ==== Sys2Proof/Machine/FunctionCommands.lean ====
section
/-! DEFINITION. Meanings of the group functions as commands (R54, R56, R100, R101, R103, R111, R113). A function
command is the reception of the Demand that brings the function, as the only one of a GROUP_CONTROL request, so that it is
judged and performed at the start of a cycle computation (R53, R167; log entry 6). -/

namespace Sys2Proof.Machine

/-- The reception of a Demand whose request area is a GROUP_CONTROL with one function (R123, R167). -/
def State.function (s : State) (f : GroupFunction) (c : Carrier) : State :=
  s.demandComes c.elapsed c.course (functionDemand f c)

/-- ENGAGE (R54). -/
def execEngage (group : Chan) (carrier : Carrier) (s : State) : Host.Outcome State Fault Refusal :=
  .next (s.function (.engage group) carrier)

/-- RELEASE (R56). -/
def execRelease (group : Chan) (carrier : Carrier) (s : State) : Host.Outcome State Fault Refusal :=
  .next (s.function (.release group) carrier)

/-- CLEAR (R100, R59). -/
def execClear (group : Chan) (carrier : Carrier) (s : State) : Host.Outcome State Fault Refusal :=
  .next (s.function (.clear group) carrier)

/-- CLEAR_PART (R101). -/
def execClearPart (carrier : Carrier) (s : State) : Host.Outcome State Fault Refusal :=
  .next (s.function .clearPart carrier)

/-- CAPTURE (R111). -/
def execCapture (carrier : Carrier) (s : State) : Host.Outcome State Fault Refusal :=
  .next (s.function .capture carrier)

/-- REARM (R113). -/
def execRearm (carrier : Carrier) (s : State) : Host.Outcome State Fault Refusal :=
  .next (s.function .rearm carrier)

/-- CLEAR_RESTART (R103). -/
def execClearRestart (carrier : Carrier) (s : State) : Host.Outcome State Fault Refusal :=
  .next (s.function .clearRestart carrier)

end Sys2Proof.Machine
end

