-- ==== Sys2Proof/Machine/LinkCommands.lean ====
section
/-! DEFINITION. Meanings of the link's commands: receptions, completions and expiries (R120 to R142). -/

namespace Sys2Proof.Machine

/-- DEMAND_RECEPTION (R120, R123, R126): passage begins or the telegram waits; discarded while RESET is held (R122). -/
def execDemandReception (elapsed : Nat) (course : Course) (bytes : List Byte) (s : State) :
    Host.Outcome State Fault Refusal :=
  .next (s.demandComes elapsed course bytes)

/-- DEADLINE_EXPIRY (R135): in UP, the link is LOST, LINK_LOST is reported and the first substitute expiry is due at
once. Outside UP there is no deadline and the event does not occur. -/
def execDeadlineExpiry (s : State) : Host.Outcome State Fault Refusal := .next s.deadlineComes

/-- SUBSTITUTE_EXPIRY (R136): in LOST, a computation runs and a substitute Demand is sent. An expiry that is none does
not occur. -/
def execSubstituteExpiry (course : Course) (s : State) : Host.Outcome State Fault Refusal :=
  .next (match s.timer.link, s.timer.nextExpiry with
    | .lost, some x => if s.alive then s.substituteExpires x course else s
    | _, _ => s)

/-- DEMAND_SENT (R121, R120): the passage ends, and the next ready or waiting telegram follows. -/
def execDemandSent (elapsed : Nat) (course : Course) (s : State) : Host.Outcome State Fault Refusal :=
  .next (if s.alive then ((s.tick elapsed).finishDemand).runAccepted course 0 else s.tick elapsed)

/-- FEEDBACK_RECEPTION (R120, R127, R130): passage begins or the telegram waits; discarded while RESET is held. -/
def execFeedbackReception (elapsed : Nat) (bytes : List Byte) (s : State) : Host.Outcome State Fault Refusal :=
  .next (if s.alive then (s.tick elapsed).receiveFeedback bytes else s.tick elapsed)

/-- FEEDBACK_SENT (R161, R129, R169): a carried response is complete and the next waiting Feedback follows. -/
def execFeedbackSent (elapsed : Nat) (s : State) : Host.Outcome State Fault Refusal :=
  .next (if s.alive then (s.tick elapsed).finishFeedback else s.tick elapsed)

end Sys2Proof.Machine
end

