-- ==== Sys2Proof/Machine/RequestCommands.lean ====
section
/-! DEFINITION. Meanings of the Image store's events and of the service requests (R150 to R170). A request command is
the hand-over of that request to the Service unit: step 3 of a Demand's passage on its own (log entry 5). -/

namespace Sys2Proof.Machine

/-- A request handed over while the unit takes requests; nothing is taken while RESET is held (R160). -/
def State.request (s : State) (kind : Byte) (area : RequestArea) : State :=
  if s.alive then s.handOver ⟨kind, area⟩ else s

/-- COMMIT_CHECK_END (R154): the check of Staging ends, where one is going on. -/
def execCommitCheckEnd (s : State) : Host.Outcome State Fault Refusal := .next s.checkEnds

/-- CALIBRATION_WRITE_END (R159): the calibration store write ends, where one is going on. -/
def execCalibrationWriteEnd (s : State) : Host.Outcome State Fault Refusal := .next s.writeEnds

/-- READ (R164), kind 1. -/
def execRead (area : RequestArea) (s : State) : Host.Outcome State Fault Refusal := .next (s.request 1 area)

/-- OPEN_TRANSFER (R150), kind 2. -/
def execOpenTransfer (area : RequestArea) (s : State) : Host.Outcome State Fault Refusal := .next (s.request 2 area)

/-- TRANSFER_DATA (R151), kind 3. -/
def execTransferData (area : RequestArea) (s : State) : Host.Outcome State Fault Refusal := .next (s.request 3 area)

/-- CLOSE_TRANSFER (R152), kind 4. -/
def execCloseTransfer (area : RequestArea) (s : State) : Host.Outcome State Fault Refusal := .next (s.request 4 area)

/-- COMMIT (R153), kind 5. -/
def execCommit (area : RequestArea) (s : State) : Host.Outcome State Fault Refusal := .next (s.request 5 area)

/-- LIVE_WRITE (R157), kind 6. -/
def execLiveWrite (area : RequestArea) (s : State) : Host.Outcome State Fault Refusal := .next (s.request 6 area)

/-- SET_LIVE_WINDOW (R156), kind 7. -/
def execSetLiveWindow (area : RequestArea) (s : State) : Host.Outcome State Fault Refusal := .next (s.request 7 area)

/-- GROUP_CONTROL (R167), kind 8: refused at once, or waiting for a computation. -/
def execGroupControl (area : RequestArea) (s : State) : Host.Outcome State Fault Refusal := .next (s.request 8 area)

/-- STORE_CALIBRATION (R158), kind 9. -/
def execStoreCalibration (area : RequestArea) (s : State) : Host.Outcome State Fault Refusal := .next (s.request 9 area)

/-- RESTART (R169), kind 10. -/
def execRestart (area : RequestArea) (s : State) : Host.Outcome State Fault Refusal := .next (s.request 10 area)

/-- DESCRIBE (R170), kind 11. -/
def execDescribe (area : RequestArea) (s : State) : Host.Outcome State Fault Refusal := .next (s.request 11 area)

/-- UNKNOWN_KIND (R162): a request of the kind code given. -/
def execUnknownKind (kind : Byte) (area : RequestArea) (s : State) : Host.Outcome State Fault Refusal :=
  .next (s.request kind area)

end Sys2Proof.Machine
end

