-- ==== Sys2Proof/Machine/SupplyCommands.lean ====
section
/-! DEFINITION. Meanings of the supply, RESET, ESTOP and SETUP commands (R92, R104, R122, R146, R149, R159). -/

namespace Sys2Proof.Machine

/-- POWER_ON (R146, R122): every block is reset and the images rebuilt; the reset ends at once, with the inputs
sampled, unless the RESET input is held. -/
def execPowerOn (s : State) : Host.Outcome State Fault Refusal :=
  let s1 := (s.withPowered true).resetBlocks
  .next (if s.resetHeld then s1 else s1.endReset)

/-- POWER_FAILURE (R159, R142): the unit stops; telegrams in passage end, and a calibration store write in progress is
abandoned, leaving the store invalid. What no reset keeps is at its reset values until power returns (log entry 21). -/
def execPowerFailure (s : State) : Host.Outcome State Fault Refusal :=
  .next (s.withPowered false).resetBlocks

/-- RESET_INPUT_ASSERT (R122, R146): every block is reset, telegrams in passage are abandoned, and the state is held. -/
def execResetInputAssert (s : State) : Host.Outcome State Fault Refusal :=
  .next (s.withResetHeld true).resetBlocks

/-- RESET_INPUT_RELEASE (R104, R149): the reset ends and the ESTOP and SETUP inputs are sampled. -/
def execResetInputRelease (s : State) : Host.Outcome State Fault Refusal :=
  .next (if s.resetHeld then (if s.powered then (s.withResetHeld false).endReset else s.withResetHeld false) else s)

/-- ESTOP_ASSERT (R104): an occurrence of ESTOP, unless the input is not taken (R92) or already stood asserted. -/
def execEstopAssert (s : State) : Host.Outcome State Fault Refusal := .next s.assertEstop

/-- ESTOP_RELEASE (R104): the ESTOP cause ends, and no level is lowered. -/
def execEstopRelease (s : State) : Host.Outcome State Fault Refusal := .next s.releaseEstop

/-- SETUP_CHANGE (R149): the change is taken as the SETUP line, except while the RESET input is held. -/
def execSetupChange (active : Bool) (s : State) : Host.Outcome State Fault Refusal := .next (s.changeSetup active)

end Sys2Proof.Machine
end

