-- ==== Sys2Proof/Machine/Dispatch.lean ====
section
/-! DEFINITION. The dispatch: one arm per command, each one direct call of its meaning. -/

namespace Sys2Proof.Machine

def exec (i : Instr) (s : State) : Host.Outcome State Fault Refusal :=
  match i with
  | .powerOn => Sys2Proof.Machine.execPowerOn s
  | .resetInputAssert => Sys2Proof.Machine.execResetInputAssert s
  | .resetInputRelease => Sys2Proof.Machine.execResetInputRelease s
  | .estopAssert => Sys2Proof.Machine.execEstopAssert s
  | .estopRelease => Sys2Proof.Machine.execEstopRelease s
  | .setupChange active => Sys2Proof.Machine.execSetupChange active s
  | .demandReception elapsed course bytes => Sys2Proof.Machine.execDemandReception elapsed course bytes s
  | .deadlineExpiry => Sys2Proof.Machine.execDeadlineExpiry s
  | .substituteExpiry course => Sys2Proof.Machine.execSubstituteExpiry course s
  | .demandSent elapsed course => Sys2Proof.Machine.execDemandSent elapsed course s
  | .feedbackReception elapsed bytes => Sys2Proof.Machine.execFeedbackReception elapsed bytes s
  | .feedbackSent elapsed => Sys2Proof.Machine.execFeedbackSent elapsed s
  | .commitCheckEnd => Sys2Proof.Machine.execCommitCheckEnd s
  | .calibrationWriteEnd => Sys2Proof.Machine.execCalibrationWriteEnd s
  | .read area => Sys2Proof.Machine.execRead area s
  | .openTransfer area => Sys2Proof.Machine.execOpenTransfer area s
  | .transferData area => Sys2Proof.Machine.execTransferData area s
  | .closeTransfer area => Sys2Proof.Machine.execCloseTransfer area s
  | .commit area => Sys2Proof.Machine.execCommit area s
  | .liveWrite area => Sys2Proof.Machine.execLiveWrite area s
  | .setLiveWindow area => Sys2Proof.Machine.execSetLiveWindow area s
  | .storeCalibration area => Sys2Proof.Machine.execStoreCalibration area s
  | .restart area => Sys2Proof.Machine.execRestart area s
  | .describe area => Sys2Proof.Machine.execDescribe area s
  | .unknownKind kind area => Sys2Proof.Machine.execUnknownKind kind area s
  | .engage group carrier => Sys2Proof.Machine.execEngage group carrier s
  | .release group carrier => Sys2Proof.Machine.execRelease group carrier s
  | .clear group carrier => Sys2Proof.Machine.execClear group carrier s
  | .clearPart carrier => Sys2Proof.Machine.execClearPart carrier s
  | .capture carrier => Sys2Proof.Machine.execCapture carrier s
  | .rearm carrier => Sys2Proof.Machine.execRearm carrier s
  | .clearRestart carrier => Sys2Proof.Machine.execClearRestart carrier s
  | .powerFailure => Sys2Proof.Machine.execPowerFailure s
  | .groupControl area => Sys2Proof.Machine.execGroupControl area s

end Sys2Proof.Machine
end

