-- ==== Sys2Proof/Safety.lean ====
section
/-! DEFINITION. What holds of the unit in every run: the invariants the spec's rules state, in the terms the claims use. -/

namespace Sys2Proof.Machine

/-! ### Service queue (R160, R161, R163) -/

/-- At most four requests are held; progress is that of a head; a response is ready exactly while the head is
PERFORMED or ANSWERED; the head is ANSWERED exactly while a Feedback carrying its response is being sent (R160, R161). -/
def State.queueOk (s : State) : Prop :=
  s.service.queue.length ≤ 4 ∧
  (s.service.progress = none ↔ s.service.queue = []) ∧
  (s.service.ready.isSome = true ↔ s.service.progress = some .performed ∨ s.service.progress = some .answered) ∧
  (s.service.progress = some .answered ↔ ∃ f, s.cellPort.sending = some f ∧ f.carries = true)

/-- The head is a request of the kind code given and has not been answered (R163). -/
def State.headWaits (s : State) (code : Nat) : Prop :=
  ∃ q rest, s.service.queue = q :: rest ∧ q.code = code ∧ s.service.progress = some .waiting

/-- A commit in flight and a store write in progress hold the head, and every group is at rest during a commit
(R153 to R155, R158, R159, R163). -/
def State.headHeld (s : State) : Prop :=
  (s.images.commit.state ≠ .none → s.headWaits 5 ∧ s.allAtRest = true) ∧ (s.images.writing.isSome = true → s.headWaits 9)

/-! ### History buffer (R107, R109, R112) -/

/-- At most 64 records with consecutive cycle counts; while not FROZEN the newest is that of the latest computation;
the remainder is above 0 exactly in POST-TRIGGER (R107, R109). -/
def State.historyOk (s : State) : Prop :=
  s.history.ring.length ≤ 64 ∧
  List.IsChain (fun a b : CycleRecord => b.count = a.count + 1) s.history.ring ∧
  (s.history.state ≠ .frozen → ∀ c ∈ s.history.ring.getLast?, c.count = s.timer.cycleCount) ∧
  (0 < s.history.remainder ↔ s.history.state = .postTrigger)

/-! ### Fault store (R93, R95) -/

/-- The key of an entry. -/
def FaultEntry.key (f : FaultEntry) : FaultKind × Chan := (f.kind, f.scope)

/-- At most one entry per key and 36 in all; each count 1 to 255; a momentary kind has no cause present; part-wide
entries have scope 0 (R93). -/
def State.faultsOk (s : State) : Prop :=
  (s.reaction.faults.map FaultEntry.key).Nodup ∧
  s.reaction.faults.length ≤ 36 ∧
  ∀ f ∈ s.reaction.faults, 1 ≤ f.count ∧ f.count ≤ 255 ∧ (f.causePresent = true → f.kind.lasting = true) ∧
    (f.kind.scopeKind = .part → f.scope = 0)

/-- Whether the cause of a lasting kind is present for a scope, as the reporting block keeps it (R90). -/
def State.cause (s : State) (k : FaultKind) (scope : Chan) : Bool :=
  match k with
  | .linkLost => s.timer.link == .lost && scope == 0
  | .estop => s.reaction.estopCause && scope == 0
  | .demandCheck => false
  | .feedbackCheck => false
  | .feedbackStale => (s.acq.get scope).feedbackStale
  | .speedImplausible => false
  | .driveFault => (s.acq.get scope).driveFault
  | .groupLost => (s.groupRef.get scope).groupLost
  | .syncWarn => (s.monitor.get scope).syncWarn
  | .syncFault => (s.monitor.get scope).syncFault
  | .positionFault => (s.monitor.get scope).positionFault
  | .torqueSaturation => (s.composer.get scope).saturation

/-- The store shows a cause as present exactly while the block that reports it has it present (R93 to R95). -/
def State.causesOk (s : State) : Prop :=
  ∀ k scope, (∃ f ∈ s.reaction.faults, f.key = (k, scope) ∧ f.causePresent = true) ↔ s.cause k scope = true

/-! ### Link (R132, R135) -/

/-- A deadline exists in UP and no other state, a next substitute expiry in LOST and no other (R132). -/
def State.timerOk (s : State) : Prop :=
  (s.timer.deadline.isSome = true ↔ s.timer.link = .up) ∧ (s.timer.nextExpiry.isSome = true ↔ s.timer.link = .lost)

/-- While the link is LOST, the LINK_LOST entry has its cause present and every group's level is SAFE (R135). -/
def State.lostOk (s : State) : Prop :=
  s.timer.link = .lost →
    (∃ f ∈ s.reaction.faults, f.key = (.linkLost, 0) ∧ f.causePresent = true) ∧
    ∀ g, s.reaction.levels.get g = .safe

/-- Between two commands no computation is running and no Demand awaits one: every command runs its computation to its
end (R133). -/
def State.idle (s : State) : Prop := s.timer.computing = none ∧ s.cellPort.accepted = none

/-! ### Coupling (R44, R48, R57) -/

/-- No group is ENGAGING or COUPLED while the Restart flag is set or its level is HOLD or SAFE (R57). -/
def State.couplingOk (s : State) : Prop :=
  ∀ g, (s.coupling.get g).state.couples = true →
    s.reaction.restart = false ∧ (s.reaction.levels.get g).code ≤ 2

/-- A group that is not at rest is a coupling group with 1 ≤ k ≤ E, and k = E in COUPLED; a group at rest has k = 1
and the marker clear (R41, R54, R55, R58). -/
def State.stepsOk (s : State) : Prop :=
  ∀ g,
    ((s.coupling.get g).state.atRest = false →
      s.active.isCouplingGroup g = true ∧ 1 ≤ (s.coupling.get g).step ∧
        (s.coupling.get g).step ≤ s.active.engageCycles g) ∧
    ((s.coupling.get g).state = .coupled → (s.coupling.get g).step = s.active.engageCycles g) ∧
    ((s.coupling.get g).state.atRest = true → (s.coupling.get g).step = 1 ∧ (s.coupling.get g).suspend = false)

/-- Every coupling torque lies within its roller's Qeff and every accumulated error within its group's Alim; both are
0 in a group at rest (R44, R48). -/
def State.torqueOk (s : State) : Prop :=
  ∀ r g, s.active.groupOf r = some g →
    |(s.torque.get r).qOut| ≤ authority s.active g r (s.coupling.get g) ∧
    |(s.torque.get r).a| ≤ s.active.alim g ∧
    ((s.coupling.get g).state.atRest = true → (s.torque.get r).qOut = 0 ∧ (s.torque.get r).a = 0)

/-! ### Images (R148) -/

/-- The Active image passes every check of R147; so does the image the pending live writes will make of it, and
Staging while a commit is READY; pending live writes are to live fields (R148, R154, R157). -/
def State.imagesOk (s : State) : Prop :=
  s.images.active.valid = true ∧
  (applyLive s.images.active s.images.pendingLive).valid = true ∧
  (s.images.commit.state = .ready → s.images.staging.valid = true) ∧
  ∀ p ∈ s.images.pendingLive, isLive p.index = true

/-! ### Composer (R77) -/

/-- The last written, ramp start and composed torques lie within the roller's Active range (R64, R77). -/
def State.writtenOk (s : State) : Prop :=
  ∀ r, (s.active.tmin r ≤ (s.composer.get r).lastWritten ∧ (s.composer.get r).lastWritten ≤ s.active.tmax r) ∧
    (s.active.tmin r ≤ (s.composer.get r).rampStart ∧ (s.composer.get r).rampStart ≤ s.active.tmax r) ∧
    (s.active.tmin r ≤ (s.composer.get r).composed ∧ (s.composer.get r).composed ≤ s.active.tmax r)

/-! ### Telegrams (R119) -/

/-- The CRC of the bytes before a telegram's last two, and those last two as its check word. -/
def checkOf (bytes : List Byte) : Half := crc16 (bytes.take (bytes.length - 2))

/-- The check word a telegram carries. -/
def carriedCheck (bytes : List Byte) : Half := halfAt bytes (bytes.length - 2)

/-- Every telegram at the Drive port is a good Demand, or is poisoned with a check word that is wrong; a Demand accepted
for a computation is good; every telegram being sent up is a good Feedback, or is so poisoned and carries no response
(R119, R123, R126, R127, R130). -/
def State.telegramsOk (s : State) : Prop :=
  (∀ b, s.cellPort.accepted = some b → goodDemand b = true) ∧
  (∀ o ∈ s.drivePort.sending.toList ++ s.drivePort.ready,
    (o.origin = .poisoned → 3 ≤ o.bytes.length ∧ carriedCheck o.bytes = ~~~ checkOf o.bytes) ∧
    (o.origin ≠ .poisoned → goodDemand o.bytes = true)) ∧
  ∀ f, s.cellPort.sending = some f →
    goodFeedback f.bytes = true ∨
      (3 ≤ f.bytes.length ∧ carriedCheck f.bytes = ~~~ checkOf f.bytes ∧ f.carries = false)

/-! ### Transfers (R150, R151) -/

/-- An open transfer's run lies in the image and its current index lies before the last one (R150, R151). -/
def State.transferOk (s : State) : Prop :=
  s.images.transfer.isOpen = true →
    s.images.transfer.first ≤ s.images.transfer.last ∧ s.images.transfer.last ≤ 253 ∧
    (s.images.transfer.first : Int) - 1 ≤ s.images.transfer.current ∧
    s.images.transfer.current < s.images.transfer.last

/-! ### Terms of the statements about resets -/

/-- Every block but the Reaction unit, the History buffer and the images themselves is at its reset values (R3, R4, R21,
R41, R42, R64, R79, R120, R121, R131, R132, R146, R150, R153, R156, R157, R160). -/
def State.blocksAtReset (t : State) : Prop :=
  (∀ r, t.acq.get r = Acquisition.reset) ∧ t.window = none ∧
  (∀ g, t.groupRef.get g = GroupReference.reset) ∧ (∀ r, t.rollerRef.get r = RollerReference.reset) ∧
  (∀ g, t.coupling.get g = GroupCoupling.reset) ∧ (∀ r, t.torque.get r = RollerTorque.reset) ∧
  (∀ r, t.composer.get r = Composer.reset (t.active.clearTorque r)) ∧ (∀ r, t.monitor.get r = Monitor.reset) ∧
  t.cellPort = CellPort.reset ∧ t.drivePort = DrivePort.reset ∧ t.timer = Timer.reset ∧
  t.images.transfer = Transfer.reset ∧ t.images.commit = Commit.reset ∧ t.images.liveLower = 0 ∧
  t.images.liveUpper = 0 ∧ t.images.pendingLive = [] ∧ t.images.writing = none ∧ t.service = Service.reset

/-- Both images are the defaults, with the 37 maintenance fields of the Calibration store in place where it is valid,
and the flag says which (R146). -/
def State.imagesLoaded (t : State) : Prop :=
  t.images.staging = t.images.active ∧ t.images.calibrationValid = t.calibration.valid ∧
  (t.calibration.valid = true → maintenanceFields.map t.active.field = t.calibration.fields) ∧
  ∀ i, i < 254 → t.calibration.valid = false ∨ isMaintenance i = false → t.active.field i = fieldDefault i

/-- What a reset from `s` to `t` leaves in the nonvolatile store: the store as it was, or, when it abandons a write, an
invalid store, for which the images take their defaults (R159). -/
def State.storeKept (s t : State) : Prop :=
  (s.images.writing = none → t.calibration = s.calibration) ∧
  (s.images.writing ≠ none →
    t.calibration.valid = false ∧ t.images.calibrationValid = false ∧ t.images.active = defaultImage ∧
    t.images.staging = defaultImage)

/-- The end of a reset: with ESTOP released the Reaction unit and the History buffer are at their reset values; with
ESTOP asserted there is one occurrence at the count left by reset, every group at SAFE (R92, R104, R107). -/
def State.linesSampled (t : State) : Prop :=
  t.images.setupLine = t.setupInput ∧ t.reaction.restart = true ∧ t.reaction.estopCause = t.estopInput ∧
  t.reaction.exclusions = Quad.all false ∧
  (t.estopInput = false →
    t.reaction.faults = [] ∧ t.reaction.levels = Quad.all .none ∧ t.history = History.reset) ∧
  (t.estopInput = true →
    t.reaction.faults = [⟨.estop, 0, 0, 0, 1, true⟩] ∧ t.reaction.levels = Quad.all .safe ∧
    t.history = ⟨[], .postTrigger, 16⟩)

/-! ### Terms of the statements about occurrences -/

/-- What an occurrence of a key makes of a Fault store (R94). -/
def recordsOccurrence (before after : List FaultEntry) (k : FaultKind) (scope : Chan) (cycle : Word) : Prop :=
  ((∀ f ∈ before, f.key ≠ (k, scope)) → after = before ++ [⟨k, scope, cycle, cycle, 1, k.lasting⟩]) ∧
  ((∃ f ∈ before, f.key = (k, scope)) →
    after.length = before.length ∧
    ∀ (i : Nat) (f : FaultEntry), before[i]? = some f →
      after[i]? = some (if f.key = (k, scope) then
        { f with last := cycle, count := min 255 (f.count + 1), causePresent := k.lasting } else f))

/-- What the end of a key's cause makes of a Fault store (R95). -/
def causeEnded (faults : List FaultEntry) (k : FaultKind) (scope : Chan) : List FaultEntry :=
  faults.map fun (f : FaultEntry) => if f.key = (k, scope) then { f with causePresent := false } else f

/-- What a change of a group's level from `old` to `new` makes of its state (R57). -/
def afterLevelChange (c c' : GroupCoupling) (old new : Level) : Prop :=
  (old.code < new.code ∧ 3 ≤ new.code →
    (c.state.couples = true → c' = { c with state := .releasing, suspend := true }) ∧
    (c.state = .releasing → c' = { c with suspend := true }) ∧
    (c.state.atRest = true → c' = c)) ∧
  (¬ (old.code < new.code ∧ 3 ≤ new.code) → c' = c)

/-- What a trigger with post-trigger count `n` makes of the History buffer (R112). -/
def afterTrigger (h h' : History) (n : Nat) : Prop :=
  (h.state = .recording → 1 ≤ n → h' = { h with state := .postTrigger, remainder := n }) ∧
  (h.state = .recording → n = 0 → h' = { h with state := .frozen, remainder := 0 }) ∧
  (h.state ≠ .recording → h' = h)

/-- What an occurrence of a kind makes of the History buffer, by the trigger level of Active (R110). -/
def afterOffer (s : State) (k : FaultKind) (h' : History) : Prop :=
  (1 ≤ s.active.triggerLevel ∧ s.active.triggerLevel ≤ (s.configuredLevel k).code →
    afterTrigger s.history h' s.active.postTrigger) ∧
  (¬ (1 ≤ s.active.triggerLevel ∧ s.active.triggerLevel ≤ (s.configuredLevel k).code) → h' = s.history)

/-- What a stage from `s` to `t` reports and what comes of it: each change of a lasting cause and the momentary events
given, and nothing else (R90). Every key that occurs has its entry renewed in place or appended with this computation's
count, every key that ends keeps its entry with no cause present, and no other entry changes (R94 to R96). Every affected
group's level becomes the greatest of its own and those configured, and no level falls (R95, R97), with R57's effect on
the group's state; a roller kind configured at DEGRADE leaves its roller's exclusion pending (R99); and the occurrences
are offered to the History buffer (R110). -/
def State.reportsTo (s t : State) (event : FaultKind → Chan → Prop) : Prop :=
  let cycle := s.timer.cycleCount
  let occurs := fun (k : FaultKind) (c : Chan) => (s.cause k c = false ∧ t.cause k c = true) ∨ event k c
  let ends := fun (k : FaultKind) (c : Chan) => s.cause k c = true ∧ t.cause k c = false
  let added := t.reaction.faults.drop s.reaction.faults.length
  let triggers := fun (k : FaultKind) =>
    1 ≤ s.active.triggerLevel ∧ s.active.triggerLevel ≤ (s.configuredLevel k).code
  (∀ (i : Nat) (f : FaultEntry), s.reaction.faults[i]? = some f →
    (occurs f.kind f.scope → t.reaction.faults[i]? =
      some { f with last := cycle, count := min 255 (f.count + 1), causePresent := f.kind.lasting }) ∧
    (ends f.kind f.scope → t.reaction.faults[i]? = some { f with causePresent := false }) ∧
    (¬ occurs f.kind f.scope → ¬ ends f.kind f.scope → t.reaction.faults[i]? = some f)) ∧
  (added.map FaultEntry.key).Nodup ∧
  (∀ e, e ∈ added ↔ ∃ k c, occurs k c ∧ (∀ f ∈ s.reaction.faults, f.key ≠ (k, c)) ∧
    e = ⟨k, c, cycle, cycle, 1, k.lasting⟩) ∧
  (∀ g, (s.reaction.levels.get g).code ≤ (t.reaction.levels.get g).code ∧
    (∀ k c, occurs k c → appliesTo s.active k c g = true →
      (s.configuredLevel k).code ≤ (t.reaction.levels.get g).code) ∧
    (t.reaction.levels.get g = s.reaction.levels.get g ∨
      ∃ k c, occurs k c ∧ appliesTo s.active k c g = true ∧ t.reaction.levels.get g = s.configuredLevel k)) ∧
  (∀ g, afterLevelChange (s.coupling.get g) (t.coupling.get g) (s.reaction.levels.get g) (t.reaction.levels.get g)) ∧
  (∀ r, t.reaction.exclusions.get r = true ↔ s.reaction.exclusions.get r = true ∨
    ∃ k, k.scopeKind = .roller ∧ occurs k r ∧ s.configuredLevel k = .degrade) ∧
  t.reaction.restart = s.reaction.restart ∧ t.reaction.estopCause = s.reaction.estopCause ∧
  ((∃ k c, occurs k c ∧ triggers k) → afterTrigger s.history t.history s.active.postTrigger) ∧
  (¬ (∃ k c, occurs k c ∧ triggers k) → t.history = s.history)

/-- A stage that reports nothing but the changes of its causes. -/
def State.reportsCauses (s t : State) : Prop := s.reportsTo t fun _ _ => False

/-! ### Terms of the statements about telegrams -/

/-- A forwarded telegram has every byte as received except its last two, which are the inverted CRC (R119, R120). -/
def poisonedCopy (received sent : List Byte) : Prop :=
  sent.length = received.length ∧ sent.take (sent.length - 2) = received.take (received.length - 2) ∧
  carriedCheck sent = ~~~ checkOf sent

/-- The returning Demand's reception at `moment` meets a condition of the resynchronisation rule (R140). -/
def State.tooSoon (s : State) (moment : Nat) : Prop :=
  s.timer.computing = some .substitute ∨
  (∃ o ∈ s.drivePort.ready, o.origin = .substitute) ∨
  ∃ t, s.drivePort.lastTx = some t ∧ moment < t + s.active.period / 2

/-! ### Terms of the statements about requests -/

/-- The state in which a request has just become the head: taken into an empty queue, WAITING, the Overrun flag
cleared (R160, R161). -/
def State.asHead (s : State) (q : Request) : State :=
  s.withService
    { s.service with queue := [q], overrun := false, progress := some .waiting, ready := none }

/-- The Service unit once the request taken into an empty queue has its response formed (R160, R161). -/
def Service.answeredWith (v : Service) (q : Request) (p : Response) : Service :=
  { v with queue := [q], overrun := false, progress := some .performed, ready := some p }

/-- A request handed over now becomes the head and is performed: the unit takes requests and holds none (R160, R161). -/
def State.takesAtOnce (s : State) : Prop := s.alive = true ∧ s.service.queue = []

/-- The state once such a request has been answered and has changed nothing else. -/
def State.answered (s : State) (q : Request) (p : Response) : State :=
  s.withService (s.service.answeredWith q p)

/-- The configured members of a group: those an ENGAGE finds included (R23). -/
def Image.configuredMembers (img : Image) (g : Chan) : List Chan := (img.members g).filter img.configured

/-- The configured members with a weight above 0: those an ENGAGE finds contributing (R22, R23). -/
def Image.weightedMembers (img : Image) (g : Chan) : List Chan :=
  (img.configuredMembers g).filter fun r => decide (0 < img.weight r)

/-- The command of a request kind, for the kinds that are requests of their own (R162). -/
def requestCommand (kind : Byte) (area : RequestArea) : Instr :=
  match kind.toNat with
  | 1 => .read area
  | 2 => .openTransfer area
  | 3 => .transferData area
  | 4 => .closeTransfer area
  | 5 => .commit area
  | 6 => .liveWrite area
  | 7 => .setLiveWindow area
  | 8 => .groupControl area
  | 9 => .storeCalibration area
  | 10 => .restart area
  | 11 => .describe area
  | _ => .unknownKind kind area

/-! ### Terms of the statements about group functions -/

/-- The command of a group function (R167). -/
def functionCommand (f : GroupFunction) (c : Carrier) : Instr :=
  match f with
  | .engage g => .engage g c
  | .release g => .release g c
  | .clear g => .clear g c
  | .clearPart => .clearPart c
  | .capture => .capture c
  | .rearm => .rearm c
  | .clearRestart => .clearRestart c

/-- The Demand that completes at a moment is processed and not made to wait or dropped (R120, R133, R140). -/
def State.processes (s : State) (moment : Nat) : Prop :=
  s.alive = true ∧ s.idle ∧ s.demandInPassage = false ∧ (s.timer.link = .lost → ¬ s.tooSoon moment)

/-- A function command is performed at its own computation: its Demand is processed, its request finds the queue
empty, and no commit is in flight (R160, R161, R163). -/
def State.takesFunction (s : State) (c : Carrier) : Prop :=
  s.processes (s.clock + c.elapsed) ∧ c.slots.length = 12 ∧ s.service.queue = [] ∧ s.images.commit.state = .none

/-- The state against which the functions of a function command are judged: its Demand told to the Cycle timer, its
request at the head, and the start-of-computation work before the group functions done (R53, R123). -/
def State.atFunctions (s : State) (f : GroupFunction) (c : Carrier) : State :=
  ((((s.withClock (s.clock + c.elapsed)).validDemand (s.clock + c.elapsed)).handOver (functionRequest f c.tag)).accept
    (functionDemand f c)).startWork (.cell (demandSlots (functionDemand f c)))

/-- The rest of that computation from the state its functions leave: the stages with the events between them, and the
edited Demand handed to the Drive port (R123). `s` is the state the command came to. -/
def State.completes (u s : State) (f : GroupFunction) (c : Carrier) : State :=
  (State.runFrom c.course.during (cycleStages none s.drivePort.lastSeq.isSome) 0 u).sendEdited (functionDemand f c) c.course.latency

/-! ### Terms of the statements about images -/

/-- A check attributed to field `i` fails (R147, with the ranges of R144 and R90). -/
def Image.breaksCheck (img : Image) (i : Nat) : Prop :=
  let n := fun j => (img.field j).toNat
  let z := fun j => (img.field j).toInt
  let outside := fun (lo hi : Nat) => n i < lo ∨ hi < n i
  let torque := z i < -32768 ∨ 32767 < z i
  let members := fun (g : Chan) => channels.filter fun r => n (10 + 15 * r.val) == g.val
  let couples := fun (g : Chan) => 2 ≤ (members g).length
  (i = 0 ∧ outside 0 3) ∨ (i = 1 ∧ outside 2 15) ∨
  (∃ r : Chan, i = 2 + r.val ∧ (outside 0 3 ∨ ∃ q : Chan, q < r ∧ n (2 + q.val) = n i)) ∨
  (i = 6 ∧ outside 1 32767) ∨ (i = 7 ∧ (n i % 256 = 0 ∨ 63 < n i / 256)) ∨ (i = 8 ∧ outside 0 4095) ∨
  (i = 9 ∧ outside 0 4) ∨
  (∃ r : Chan,
    let b := 10 + 15 * r.val
    (i = b ∧ outside 0 3) ∨ (i = b + 1 ∧ outside 0 255) ∨ (i = b + 2 ∧ outside 32768 131072) ∨
    (i = b + 3 ∧ (outside 0 4 ∨ (1 ≤ n i ∧ n i ≤ 4 ∧ n (110 + 33 * (n i - 1)) < 2))) ∨ (i = b + 4 ∧ outside 0 1) ∨
    (i = b + 5 ∧ n i = 0 ∧ ∃ g : Chan, n b = g.val ∧ couples g) ∨ (i = b + 6 ∧ torque) ∨
    (i = b + 7 ∧ (torque ∨ z i < z (b + 8))) ∨ (i = b + 8 ∧ (torque ∨ z i < z (b + 6))) ∨ (i = b + 9 ∧ torque) ∨
    (i = b + 10 ∧ torque) ∨ (i = b + 11 ∧ outside 0 32767) ∨ (i = b + 12 ∧ outside 0 32767) ∨
    (i = b + 13 ∧ outside 1 4000000) ∨ (i = b + 14 ∧ outside 1 15)) ∨
  (∃ g : Chan, couples g ∧
    let b := 70 + 10 * g.val
    ((i = b ∧ (outside 0 65535 ∨ ∀ r ∈ members g, n (11 + 15 * r.val) = 0)) ∨ (i = b + 1 ∧ outside 0 65535) ∨
      (i = b + 2 ∧ outside 1 1073741824) ∨ (i = b + 3 ∧ outside 1 4096) ∨ (i = b + 4 ∧ outside 1 32767) ∨
      (i = b + 5 ∧ outside 1 20000000) ∨ (i = b + 6 ∧ (outside 1 20000000 ∨ n i < n (b + 5))) ∨
      (i = b + 7 ∧ outside 1 1073741824) ∨ (i = b + 8 ∧ outside 0 2) ∨ (i = b + 9 ∧ outside 1 255))) ∨
  (∃ c : Chan,
    let b := 110 + 33 * c.val
    let m := n b
    (i = b ∧ m ≠ 0 ∧ (m < 2 ∨ 16 < m)) ∨
    (2 ≤ m ∧ m ≤ 16 ∧
      ∃ j, j < m ∧
        ((i = b + 1 + j ∧ (if j = 0 then z i < 0 else z i ≤ z (i - 1))) ∨ (i = b + 17 + j ∧ outside 32768 131072)))) ∨
  (∃ k, k < 12 ∧ i = 242 + k ∧
    outside (if k = 0 ∨ k = 1 then 4 else if k = 4 ∨ k = 6 then 2 else if k = 7 ∨ k = 9 ∨ k = 10 then 3 else 0) 4)

end Sys2Proof.Machine
end

