-- ==== Sys2Proof/WellFormed.lean ====
section
/-! DEFINITION. Which commands are well formed. The unit's meaning is total; these checks say which terms stand for an event. -/

namespace Sys2Proof

/-- A request area carries exactly eight data words (R117). -/
def RequestArea.wf (a : RequestArea) : Bool := a.data.length == 8

/-- A kind code the unit does not know: 0 or above 11 (R162). -/
def isUnknownKind (kind : Byte) : Bool := kind.toNat == 0 || decide (11 < kind.toNat)

/-- A telegram completes with at least one byte received. -/
def wfBytes (bytes : List Byte) : Bool := !bytes.isEmpty

/-- A reception during a computation holds a byte like any other. -/
def Event.wf : Event → Bool
  | .estopAssert => true
  | .estopRelease => true
  | .setupChange _ => true
  | .demandReception bytes => wfBytes bytes
  | .demandSent => true
  | .feedbackReception bytes => wfBytes bytes
  | .feedbackSent => true
  | .deadlineExpiry => true
  | .commitCheckEnd => true
  | .calibrationWriteEnd => true

/-- An event during a computation comes at one of the seven points of the first computation or of a second one. -/
def MidEvent.wf (e : MidEvent) : Bool := decide (e.point < 14) && e.event.wf

/-- Every event during a command's computation is well formed. -/
def Course.wf (c : Course) : Bool := c.during.all MidEvent.wf

/-- A Demand has four slots of three bytes (R117). -/
def Carrier.wf (c : Carrier) : Bool := c.slots.length == 12 && c.course.wf

/-- The well-formedness of a command: eight data words in every request area and twelve bytes of slots (R117), a kind
code that is really unknown in UNKNOWN_KIND (R162), a reception that holds a byte (R120), and events during a computation
at its points. -/
def Instr.wf : Instr → Bool
  | .powerOn => true
  | .resetInputAssert => true
  | .resetInputRelease => true
  | .estopAssert => true
  | .estopRelease => true
  | .setupChange _ => true
  | .demandReception _ course bytes => wfBytes bytes && course.wf
  | .deadlineExpiry => true
  | .substituteExpiry course => course.wf
  | .demandSent _ course => course.wf
  | .feedbackReception _ bytes => wfBytes bytes
  | .feedbackSent _ => true
  | .commitCheckEnd => true
  | .calibrationWriteEnd => true
  | .read area => area.wf
  | .openTransfer area => area.wf
  | .transferData area => area.wf
  | .closeTransfer area => area.wf
  | .commit area => area.wf
  | .liveWrite area => area.wf
  | .setLiveWindow area => area.wf
  | .storeCalibration area => area.wf
  | .restart area => area.wf
  | .describe area => area.wf
  | .unknownKind kind area => isUnknownKind kind && area.wf
  | .engage _ carrier => carrier.wf
  | .release _ carrier => carrier.wf
  | .clear _ carrier => carrier.wf
  | .clearPart carrier => carrier.wf
  | .capture carrier => carrier.wf
  | .rearm carrier => carrier.wf
  | .clearRestart carrier => carrier.wf
  | .powerFailure => true
  | .groupControl area => area.wf

end Sys2Proof
end

