-- ==== Sys2Proof/Certificates/Slice0/Obligations.lean ====
section
/-! DEFINITION. The statements for the provers, in the order of OBLIGATIONS.json. -/

section
open Sys2Proof Sys2Proof.Machine

/-! ### The machine -/

/-- A step runs the front command on the state with the queue's rest; on an empty queue the unit idles. The queue and
the idling are the model's (log entry 1). An event that comes while a computation runs does what its command does, but that
a Demand's own computation waits for the running one (R104, R133, R161; log entry 3). -/
def Obligations.StepRunsFrontCommand : Prop :=
  (∀ (s : State) (c : Instr) (rest : List Instr), s.pending = c :: rest →
    step s = exec c { s with pending := rest }) ∧
  (∀ s : State, s.pending = [] → step s = .next s) ∧
  ∀ (s : State) (elapsed : Nat) (course : Course) (bytes : List Byte) (active : Bool),
    exec .estopAssert s = .next (s.happens .estopAssert) ∧
    exec .estopRelease s = .next (s.happens .estopRelease) ∧
    exec (.setupChange active) s = .next (s.happens (.setupChange active)) ∧
    exec .deadlineExpiry s = .next (s.happens .deadlineExpiry) ∧
    exec .commitCheckEnd s = .next (s.happens .commitCheckEnd) ∧
    exec .calibrationWriteEnd s = .next (s.happens .calibrationWriteEnd) ∧
    (s.alive = true →
      let u := s.withClock (s.clock + elapsed)
      exec (.feedbackReception elapsed bytes) s = .next (u.happens (.feedbackReception bytes)) ∧
      exec (.feedbackSent elapsed) s = .next (u.happens .feedbackSent) ∧
      exec (.demandReception elapsed course bytes) s =
        .next ((u.happens (.demandReception bytes)).runAccepted course 0) ∧
      exec (.demandSent elapsed course) s = .next ((u.happens .demandSent).runAccepted course 0))

/-- Every command completes in every state, with a next state that leaves the commands waiting as they were: the unit
has no fault that stops it (R90) and every refusal of a request is a response (R162).
The waiting commands are the model's own queue (log entry 1), and that an event that cannot occur completes too is the
model's choice (log entry 4). -/
def Obligations.EveryCommandKeepsTheQueue : Prop :=
  ∀ (c : Instr) (s : State), ∃ t, exec c s = .next t ∧ t.pending = s.pending

/-! ### Invariants -/

/-- The state after reset meets every invariant stated below.
The new unit that State.reset stands for is the model's choice (log entry 9). -/
def Obligations.ResetMeetsEveryInvariant : Prop :=
  State.reset.queueOk ∧ State.reset.headHeld ∧ State.reset.imagesOk ∧ State.reset.historyOk ∧
  State.reset.faultsOk ∧ State.reset.causesOk ∧ State.reset.timerOk ∧ State.reset.lostOk ∧
  State.reset.couplingOk ∧ State.reset.stepsOk ∧ State.reset.torqueOk ∧ State.reset.writtenOk ∧
  State.reset.telegramsOk ∧ State.reset.transferOk ∧ State.reset.idle

/-- The Service queue holds at most 4 requests, its head's progress and response go together, and an accepted COMMIT or
STORE_CALIBRATION holds the head, with every group at rest during a commit (R160, R161, R163, R155). -/
def Obligations.StepKeepsServiceQueue : Prop :=
  ∀ s t : State, s.queueOk → s.headHeld → step s = .next t → t.queueOk ∧ t.headHeld

/-- The Active image always satisfies every validation check (R148): at reset, and after every step. -/
def Obligations.StepKeepsImagesValid : Prop :=
  State.reset.active.valid = true ∧
  ∀ s t : State, s.queueOk → s.headHeld → s.imagesOk → step s = .next t → t.imagesOk

/-- The ring holds at most 64 records, one per computation and in the order of the computations (R109). -/
def Obligations.StepKeepsHistoryInOrder : Prop :=
  ∀ s t : State, s.historyOk → step s = .next t → t.historyOk

/-- The Fault store holds at most one entry per key and at most 36, each with a count of 1 to 255 (R93). -/
def Obligations.StepKeepsFaultStore : Prop :=
  ∀ s t : State, s.faultsOk → step s = .next t → t.faultsOk

/-- An entry shows its cause present exactly while the reporting block has the cause present (R90, R93 to R95). -/
def Obligations.StepKeepsCausesShown : Prop :=
  ∀ s t : State, s.causesOk → step s = .next t → t.causesOk

/-- A deadline exists in UP only and a next substitute expiry in LOST only (R132); in LOST the LINK_LOST entry keeps its
cause present and every group's level is SAFE (R135); no computation runs, and no Demand awaits one, between two commands
(that each command runs its computation to its end is the model's form of R133, log entry 3). -/
def Obligations.StepKeepsLinkAndLoss : Prop :=
  (∀ s t : State, s.timerOk → step s = .next t → t.timerOk) ∧
  (∀ s t : State, s.idle → step s = .next t → t.idle) ∧
  ∀ s t : State, s.queueOk → s.headHeld → s.imagesOk → s.lostOk → step s = .next t → t.lostOk

/-- No group is ENGAGING or COUPLED while the Restart flag is set or its level is HOLD or SAFE (R57). -/
def Obligations.StepKeepsCouplingPermitted : Prop :=
  ∀ s t : State, s.couplingOk → step s = .next t → t.couplingOk

/-- The engage step stays within 1 to E and at E in COUPLED (R41, R55); every coupling torque stays within its Qeff and
every accumulated error within Alim, both 0 in a group at rest (R44, R48). -/
def Obligations.StepKeepsEngageAndTorque : Prop :=
  ∀ s t : State, s.queueOk → s.headHeld → s.imagesOk → s.stepsOk → step s = .next t →
    t.stepsOk ∧ (s.torqueOk → t.torqueOk)

/-- Every last written, ramp start and composed torque stays within the roller's Active range (R64, R77). -/
def Obligations.StepKeepsWrittenInRange : Prop :=
  ∀ s t : State, s.queueOk → s.headHeld → s.imagesOk → s.writtenOk → step s = .next t → t.writtenOk

/-- Every telegram at a port's output is good or is certain to be found wrong (R119, R120, R123, R126, R127, R130, R137). -/
def Obligations.StepKeepsTelegramChecks : Prop :=
  ∀ s t : State, s.telegramsOk → step s = .next t → t.telegramsOk

/-- An open transfer's run lies in the image and its current index lies before its last (R150, R151). -/
def Obligations.StepKeepsTransferInBounds : Prop :=
  ∀ s t : State, s.transferOk → step s = .next t → t.transferOk

/-! ### Supply, RESET, ESTOP and SETUP -/

/-- POWER_ON: every block at its reset values, the images loaded from the store, the inputs sampled unless the RESET input
is held, in which case nothing is sampled yet (R92, R104, R122, R146, R149).
The SETUP line's value until it is sampled is the model's (log entry 17), and so are two reset values of the torque fields
(log entry 15) and a POWER_ON with power already on (log entry 4). -/
def Obligations.PowerOnRestoresEveryBlock : Prop :=
  ∀ s : State, ∃ t, exec .powerOn s = .next t ∧ t.powered = true ∧ t.blocksAtReset ∧ t.imagesLoaded ∧
    t.resetHeld = s.resetHeld ∧ t.estopInput = s.estopInput ∧ t.setupInput = s.setupInput ∧ t.clock = s.clock ∧
    s.storeKept t ∧
    (s.resetHeld = false → t.linesSampled) ∧
    (s.resetHeld = true → t.reaction = Reaction.reset ∧ t.history = History.reset ∧ t.images.setupLine = false)

/-- POWER_FAILURE: the nonvolatile store stays, but for one being written, which is left invalid: at the next power-on
Calibration valid is no and both images are the defaults (R159). -/
def Obligations.PowerFailureLosesUnfinishedStore : Prop :=
  ∀ s : State, ∃ t, exec .powerFailure s = .next t ∧ t.powered = false ∧ t.alive = false ∧
    (s.images.writing = none → t.calibration = s.calibration) ∧
    (s.images.writing ≠ none →
      ∃ u, exec .powerOn t = .next u ∧ u.calibration.valid = false ∧ u.images.calibrationValid = false ∧
        u.images.active = defaultImage ∧ u.images.staging = defaultImage)

/-- RESET_INPUT_ASSERT resets every block and asserts the FAULT line; the Calibration store stays, but for one being written,
which is left invalid (R159). While the input is held every command but those of the RESET input and the supply changes
nothing but the level of its input, kept as driven, and the time that passes with a timed one (R92, R105, R122).
That no level of an input is taken meanwhile but kept as driven is the model's form of it (log entry 4), the SETUP line's
value while the input is held is the model's (log entry 17), and so are two reset values of the torque fields (log entry
15). -/
def Obligations.HeldResetKeepsResetValues : Prop :=
  (∀ s : State, ∃ t, exec .resetInputAssert s = .next t ∧ t.resetHeld = true ∧ t.blocksAtReset ∧ t.imagesLoaded ∧
    t.reaction = Reaction.reset ∧ t.history = History.reset ∧ t.images.setupLine = false ∧ t.faultLine = true ∧
    t.powered = s.powered ∧ t.estopInput = s.estopInput ∧ t.setupInput = s.setupInput ∧ t.clock = s.clock ∧
    s.storeKept t) ∧
  ∀ (s : State) (c : Instr), s.resetHeld = true →
    c ≠ .powerOn → c ≠ .powerFailure → c ≠ .resetInputAssert → c ≠ .resetInputRelease →
    let estop := match c with | .estopAssert => true | .estopRelease => false | _ => s.estopInput
    let setup := match c with | .setupChange active => active | _ => s.setupInput
    let elapsed := match c with
      | .demandReception elapsed _ _ | .demandSent elapsed _ | .feedbackReception elapsed _ | .feedbackSent elapsed =>
        elapsed
      | .engage _ carrier | .release _ carrier | .clear _ carrier | .clearPart carrier | .capture carrier
      | .rearm carrier | .clearRestart carrier => carrier.elapsed
      | _ => 0
    exec c s = .next (((s.withEstopInput estop).withSetupInput setup).withClock (s.clock + elapsed))

/-- RESET_INPUT_RELEASE samples the SETUP input, and the ESTOP input, which is an occurrence if it is asserted (R104,
R149). -/
def Obligations.ResetReleaseSamplesInputs : Prop :=
  ∀ s : State, s.resetHeld = true → s.powered = true →
    (s.estopInput = false →
      exec .resetInputRelease s =
        .next ((s.withResetHeld false).withImages { s.images with setupLine := s.setupInput })) ∧
    (s.estopInput = true →
      ∃ r c h, exec .resetInputRelease s =
          .next (((((s.withResetHeld false).withImages { s.images with setupLine := s.setupInput }).withReaction
            r).withCoupling c).withHistory h) ∧
        r.estopCause = true ∧ r.restart = s.reaction.restart ∧ r.exclusions = s.reaction.exclusions ∧
        recordsOccurrence s.reaction.faults r.faults .estop 0 s.timer.cycleCount ∧
        (s.active.valid = true → ∀ g, r.levels.get g = .safe) ∧
        (∀ g, afterLevelChange (s.coupling.get g) (c.get g) (s.reaction.levels.get g) (r.levels.get g)) ∧
        afterOffer s .estop h)

/-- ESTOP_ASSERT: the ESTOP cause is present, an occurrence raises every group to SAFE with R57's effect on its state, and
nothing outside the Reaction unit, the group states and the History buffer changes (R104). -/
def Obligations.EstopAssertEscalatesEveryGroup : Prop :=
  ∀ s : State, s.alive = true → s.reaction.estopCause = false → s.active.valid = true →
    ∃ r c h, exec .estopAssert s =
        .next ((((s.withEstopInput true).withReaction r).withCoupling c).withHistory h) ∧
      r.estopCause = true ∧ r.restart = s.reaction.restart ∧ r.exclusions = s.reaction.exclusions ∧
      recordsOccurrence s.reaction.faults r.faults .estop 0 s.timer.cycleCount ∧
      (∀ g, r.levels.get g = .safe) ∧
      (∀ g, afterLevelChange (s.coupling.get g) (c.get g) (s.reaction.levels.get g) .safe) ∧
      afterOffer s .estop h

/-- ESTOP_RELEASE ends the cause in its entry and lowers no level (R104, R95); SETUP_CHANGE is taken as the SETUP line and
changes nothing else (R149). -/
def Obligations.EstopReleaseAndSetupChange : Prop :=
  (∀ s : State, s.alive = true → s.reaction.estopCause = true →
    exec .estopRelease s =
      .next ((s.withEstopInput false).withReaction
        { s.reaction with estopCause := false, faults := causeEnded s.reaction.faults .estop 0 })) ∧
  ∀ (s : State) (active : Bool), s.alive = true →
    exec (.setupChange active) s =
      .next ((s.withSetupInput active).withImages { s.images with setupLine := active })

/-! ### Faults -/

/-- An occurrence updates the Fault store, raises the level of each affected group and no other, sets the exclusion of a
roller kind configured at DEGRADE, and is offered to the History buffer; nothing else changes (R94, R97, R99, R110). -/
def Obligations.OccurrenceRecordedAndEscalated : Prop :=
  ∀ (s : State) (k : FaultKind) (scope : Chan),
    ∃ r c h, s.occurrence k scope = ((s.withReaction r).withCoupling c).withHistory h ∧
      r.restart = s.reaction.restart ∧ r.estopCause = s.reaction.estopCause ∧
      recordsOccurrence s.reaction.faults r.faults k scope s.timer.cycleCount ∧
      (∀ g, (k.scopeKind = .part ∨ (k.scopeKind = .roller ∧ s.active.groupOf scope = some g) ∨
          (k.scopeKind = .group ∧ scope = g) →
        (r.levels.get g).code = max (s.reaction.levels.get g).code (s.configuredLevel k).code)) ∧
      (∀ g, ¬ (k.scopeKind = .part ∨ (k.scopeKind = .roller ∧ s.active.groupOf scope = some g) ∨
          (k.scopeKind = .group ∧ scope = g)) → r.levels.get g = s.reaction.levels.get g) ∧
      (∀ g, afterLevelChange (s.coupling.get g) (c.get g) (s.reaction.levels.get g) (r.levels.get g)) ∧
      (∀ r', r.exclusions.get r' =
        if k.scopeKind = .roller ∧ s.configuredLevel k = .degrade ∧ r' = scope then true
        else s.reaction.exclusions.get r') ∧
      afterOffer s k h

/-! ### Telegrams in passage -/

/-- A good Demand that is not dropped: the Cycle timer is told, a request with destination PART is handed over, one computation
runs with the events that come during it, and its edited Demand is handed to the Drive port unless a reset has abandoned
it (R123, R133). Without events the link is UP with a fresh deadline, the cycle count is the next one, this Demand's slots
are held, and the edited Demand is sent at once or ready behind the one being sent (R121, R134, R135, R139).
The clock and the events' places are the model's (log entries 2 and 3). -/
def Obligations.GoodDemandRunsOneComputation : Prop :=
  ∀ (s : State) (elapsed : Nat) (course : Course) (bytes : List Byte),
    s.processes (s.clock + elapsed) → goodDemand bytes = true →
    let told := (s.withClock (s.clock + elapsed)).validDemand (s.clock + elapsed)
    let taken := if destinationOf bytes = 1 then told.handOver (requestOf bytes) else told
    let run := (taken.accept bytes).computeCycle (.cell (demandSlots bytes)) course.during 0
    let free := run.withCellPort { run.cellPort with accepted := none }
    (run.timer.computing = none → exec (.demandReception elapsed course bytes) s = .next free) ∧
    (run.timer.computing ≠ none →
      exec (.demandReception elapsed course bytes) s =
        .next ((free.withTimer { run.timer with computing := none }).driveReady ⟨.edited, run.editedDemand bytes⟩
          (run.clock + course.latency))) ∧
    (course.during = [] →
      ∃ t, exec (.demandReception elapsed course bytes) s = .next t ∧
        t.clock = s.clock + elapsed ∧ t.timer.cycleCount = s.timer.cycleCount + 1 ∧
        t.timer.held = some (demandSlots bytes) ∧ t.timer.link = .up ∧ t.timer.nextExpiry = none ∧
        t.timer.deadline = some (s.clock + elapsed + s.active.linkTimeout * s.active.period) ∧
        t.timer.resyncDrops = s.timer.resyncDrops ∧ t.idle ∧
        t.cellPort = s.cellPort ∧ t.calibration = s.calibration ∧ t.estopInput = s.estopInput ∧
        t.setupInput = s.setupInput ∧ t.reaction.estopCause = s.reaction.estopCause ∧
        t.drivePort.waiting = s.drivePort.waiting ∧ t.drivePort.feedbackErrors = s.drivePort.feedbackErrors ∧
        goodDemand (t.editedDemand bytes) = true ∧ (t.editedDemand bytes).take 4 = bytes.take 4 ∧
        (s.drivePort.sending = none →
          t.drivePort.sending = some ⟨.edited, t.editedDemand bytes⟩ ∧ t.drivePort.ready = s.drivePort.ready ∧
          t.drivePort.lastSeq = some (sequenceOf bytes) ∧ t.drivePort.lastTx = some (s.clock + elapsed + course.latency) ∧
          t.window = some (sequenceOf bytes) ∧ ∀ r, (t.acq.get r).taken = false) ∧
        ∀ o, s.drivePort.sending = some o →
          t.drivePort.sending = some o ∧
          t.drivePort.ready = s.drivePort.ready ++ [⟨.edited, t.editedDemand bytes⟩] ∧
          t.drivePort.lastSeq = s.drivePort.lastSeq ∧ t.drivePort.lastTx = s.drivePort.lastTx ∧ t.window = none)

/-- The edited Demand carries in each channel's slot the written torque and the ENABLE flag of its composition with flags
1 to 7 as received (R124); its request area is empty for destination PART and unchanged otherwise (R125). -/
def Obligations.EditedDemandCarriesWrittenTorques : Prop :=
  ∀ (s : State) (bytes : List Byte), s.active.valid = true → goodDemand bytes = true →
    (∀ r : Chan,
      (demandSlot (s.editedDemand bytes) (slotPosition s.active r)).torque =
        BitVec.ofInt 16 (s.composer.get r).lastWritten ∧
      (demandSlot (s.editedDemand bytes) (slotPosition s.active r)).enable = (s.composer.get r).enable ∧
      ∀ i, 1 ≤ i → i ≤ 7 →
        (demandSlot (s.editedDemand bytes) (slotPosition s.active r)).flags.getLsbD i =
          (demandSlot bytes (slotPosition s.active r)).flags.getLsbD i) ∧
    (s.editedDemand bytes).take 4 = bytes.take 4 ∧
    (destinationOf bytes = 1 → ((s.editedDemand bytes).drop 16).take 39 = List.replicate 39 0) ∧
    (destinationOf bytes ≠ 1 → ((s.editedDemand bytes).drop 16).take 39 = (bytes.drop 16).take 39)

/-- A Demand with a bad check word is counted and reported, and forwarded poisoned unless it is shorter than 3 bytes; no
computation runs, no request is taken, and the deadline, the port's records and the window stay (R120, R126, R131). -/
def Obligations.BadDemandPoisonedAndCounted : Prop :=
  ∀ (s : State) (elapsed : Nat) (course : Course) (bytes : List Byte),
    s.alive = true → s.demandInPassage = false → goodDemand bytes = false →
    ∃ r c h d, exec (.demandReception elapsed course bytes) s =
        .next ((((((s.withClock (s.clock + elapsed)).withCellPort
          { s.cellPort with demandErrors := min 65535 (s.cellPort.demandErrors + 1) }).withReaction r).withCoupling
          c).withHistory h).withDrivePort d) ∧
      recordsOccurrence s.reaction.faults r.faults .demandCheck 0 s.timer.cycleCount ∧
      r.restart = s.reaction.restart ∧ r.estopCause = s.reaction.estopCause ∧
      r.exclusions = s.reaction.exclusions ∧
      (∀ g, (r.levels.get g).code = max (s.reaction.levels.get g).code (s.configuredLevel .demandCheck).code) ∧
      (∀ g, afterLevelChange (s.coupling.get g) (c.get g) (s.reaction.levels.get g) (r.levels.get g)) ∧
      afterOffer s .demandCheck h ∧
      (bytes.length < 3 → d = s.drivePort) ∧
      (3 ≤ bytes.length → ∃ p, poisonedCopy bytes p ∧
        (s.drivePort.sending = none → d = { s.drivePort with sending := some ⟨.poisoned, p⟩ }) ∧
        (s.drivePort.sending ≠ none →
          d = { s.drivePort with ready := s.drivePort.ready ++ [⟨.poisoned, p⟩] }))

/-- A telegram completed while one is in passage waits at its port and replaces one already waiting, which is discarded
without any effect (R120). A returning Demand too soon after the last transmission, or while a substitute computation is
running or its telegram awaits transmission, ends the loss and is dropped: the drop is counted, no computation runs and
nothing is sent or taken (R139, R140).
That a reception shorter than 3 bytes waits too is inferred (log entry 13), the moment kept with a waiting Demand is the
model's reading (log entry 12), and so is that a substitute not yet begun at the moment counts (log entry 3). -/
def Obligations.TelegramsWaitOrAreDropped : Prop :=
  (∀ (s : State) (elapsed : Nat) (course : Course) (bytes : List Byte),
    s.alive = true → s.idle → s.demandInPassage = true →
    exec (.demandReception elapsed course bytes) s =
      .next ((s.withClock (s.clock + elapsed)).withCellPort
        { s.cellPort with waiting := some ⟨bytes, s.clock + elapsed⟩ })) ∧
  (∀ (s : State) (elapsed : Nat) (bytes : List Byte), s.alive = true → s.cellPort.sending ≠ none →
    exec (.feedbackReception elapsed bytes) s =
      .next ((s.withClock (s.clock + elapsed)).withDrivePort { s.drivePort with waiting := some bytes })) ∧
  (∀ (s : State) (elapsed : Nat) (course : Course) (bytes : List Byte),
    s.alive = true → s.demandInPassage = false → goodDemand bytes = true → s.timer.link = .lost →
    s.tooSoon (s.clock + elapsed) →
    exec (.demandReception elapsed course bytes) s =
      .next (((s.withClock (s.clock + elapsed)).withTimer
        { s.timer with
          link := .up, nextExpiry := none
          deadline := some (s.clock + elapsed + s.active.linkTimeout * s.active.period)
          resyncDrops := min 65535 (s.timer.resyncDrops + 1) }).withReaction
        { s.reaction with faults := causeEnded s.reaction.faults .linkLost 0 })) ∧
  ∀ (s : State) (bytes : List Byte), s.timer.computing = some .substitute → s.demandInPassage = false →
    goodDemand bytes = true →
    (s.timer.link = .lost → s.happens (.demandReception bytes) = (s.validDemand s.clock).countDrop) ∧
    (s.timer.link ≠ .lost →
      s.happens (.demandReception bytes) = ((s.validDemand s.clock).takeRequest bytes).accept bytes)

/-- DEADLINE_EXPIRY in UP: the link is LOST, an occurrence of LINK_LOST raises every group to SAFE, and the first
substitute expiry is at that moment. In IDLE and LOST no deadline runs and nothing happens (R132, R134, R135).
The clock and the expiry that does not occur are the model's (log entries 2 and 4). -/
def Obligations.DeadlineExpiryLosesLink : Prop :=
  (∀ (s : State) (d : Nat), s.alive = true → s.timer.link = .up → s.timer.deadline = some d → s.active.valid = true →
    ∃ r c h, exec .deadlineExpiry s =
        .next (((((s.withClock (max s.clock d)).withTimer
          { s.timer with link := .lost, deadline := none, nextExpiry := some (max s.clock d) }).withReaction
          r).withCoupling c).withHistory h) ∧
      recordsOccurrence s.reaction.faults r.faults .linkLost 0 s.timer.cycleCount ∧
      r.restart = s.reaction.restart ∧ r.estopCause = s.reaction.estopCause ∧
      r.exclusions = s.reaction.exclusions ∧ (∀ g, r.levels.get g = .safe) ∧
      (∀ g, afterLevelChange (s.coupling.get g) (c.get g) (s.reaction.levels.get g) .safe) ∧
      afterOffer s .linkLost h) ∧
  ∀ s : State, s.timer.link ≠ .up → exec .deadlineExpiry s = .next s

/-- SUBSTITUTE_EXPIRY in LOST: one computation with the events that come during it; its telegram, a substitute Demand with the
next sequence, an empty area and the written torques, is handed to the Drive port unless a reset has abandoned it, and a
Demand accepted meanwhile is computed after it (R133, R136, R137). Without events the next expiry is one nominal period
after this one's moment and the telegram is sent at once or ready behind the one being sent. An expiry that is none
does not occur.
The clock, the events' places and the expiry that does not occur are the model's (log entries 2, 3 and 4), and so is that
the substitute's transmission begins before the computation of the Demand that waited (log entry 33). -/
def Obligations.SubstituteExpirySendsDemand : Prop :=
  (∀ (s : State) (x : Nat) (course : Course), s.alive = true → s.timer.link = .lost →
    s.timer.nextExpiry = some x →
    let run := (s.withClock (max s.clock x)).computeCycle (.substitute x) course.during 0
    let sent := (run.withTimer { run.timer with computing := none }).driveReady ⟨.substitute, run.substituteDemand⟩
      (run.clock + course.latency)
    (run.timer.computing = none → exec (.substituteExpiry course) s = .next run) ∧
    (run.timer.computing ≠ none → run.cellPort.accepted = none →
      exec (.substituteExpiry course) s = .next sent) ∧
    (∀ bytes, run.timer.computing ≠ none → run.cellPort.accepted = some bytes →
      exec (.substituteExpiry course) s =
        .next ((sent.computeCycle (.cell (demandSlots bytes)) course.during 7).sendEdited bytes course.latency)) ∧
    goodDemand run.substituteDemand = true ∧ byteAt run.substituteDemand 1 = 1 ∧
    (run.substituteDemand.drop 16).take 39 = List.replicate 39 0 ∧
    sequenceOf run.substituteDemand = (match run.drivePort.lastSeq with | some q => q + 1 | none => 0) ∧
    (run.active.valid = true → ∀ r : Chan,
      (demandSlot run.substituteDemand (slotPosition run.active r)).torque =
        BitVec.ofInt 16 (run.composer.get r).lastWritten ∧
      (demandSlot run.substituteDemand (slotPosition run.active r)).enable = (run.composer.get r).enable ∧
      ∀ held, run.timer.held = some held → ∀ i, 1 ≤ i → i ≤ 7 →
        (demandSlot run.substituteDemand (slotPosition run.active r)).flags.getLsbD i =
          (held.get (slotPosition run.active r)).flags.getLsbD i)) ∧
  (∀ (s : State) (x latency : Nat), s.alive = true → s.idle → s.timer.link = .lost → s.timer.nextExpiry = some x →
    ∃ t, exec (.substituteExpiry ⟨latency, []⟩) s = .next t ∧
      let b := ((s.withClock (max s.clock x)).computeCycle (.substitute x) [] 0).substituteDemand
      t.clock = max s.clock x ∧ t.timer.cycleCount = s.timer.cycleCount + 1 ∧ t.timer.link = .lost ∧
      t.timer.held = s.timer.held ∧ t.timer.deadline = s.timer.deadline ∧ t.idle ∧
      t.timer.nextExpiry = some (x + t.active.period) ∧ t.timer.resyncDrops = s.timer.resyncDrops ∧
      t.cellPort = s.cellPort ∧ t.calibration = s.calibration ∧
      t.service.queue = s.service.queue ∧ t.service.overruns = s.service.overruns ∧
      sequenceOf b = (match s.drivePort.lastSeq with | some q => q + 1 | none => 0) ∧
      (s.drivePort.sending = none →
        t.drivePort.sending = some ⟨.substitute, b⟩ ∧ t.drivePort.ready = s.drivePort.ready ∧
        t.drivePort.lastSeq = some (sequenceOf b) ∧ t.drivePort.lastTx = some (max s.clock x + latency) ∧
        t.window = some (sequenceOf b)) ∧
      ∀ o, s.drivePort.sending = some o →
        t.drivePort.sending = some o ∧ t.drivePort.ready = s.drivePort.ready ++ [⟨.substitute, b⟩] ∧
        t.drivePort.lastSeq = s.drivePort.lastSeq ∧ t.drivePort.lastTx = s.drivePort.lastTx ∧ t.window = none) ∧
  ∀ (s : State) (course : Course), s.timer.nextExpiry = none →
    exec (.substituteExpiry course) s = .next s

/-- DEMAND_SENT: the passage ends. The next ready telegram is sent, an edited or substitute one opening the window on its
sequence and a poisoned one changing no record; with nothing ready the port falls silent. A waiting Demand goes on waiting
behind one in passage, and otherwise its passage begins (R4, R120, R121).
The end of no sending is the model's (log entry 4), and so are the moment a waiting Demand carries (log entry 12), that the
next telegram is begun at the moment the one before it was sent (log entry 28), and that a new window leaves the pending
samples of an earlier one (log entry 30). -/
def Obligations.DemandSentStartsNext : Prop :=
  (∀ (s : State) (elapsed : Nat) (course : Course), s.alive = true → s.idle → s.drivePort.sending = none →
    exec (.demandSent elapsed course) s = .next (s.withClock (s.clock + elapsed))) ∧
  ∀ (s : State) (elapsed : Nat) (course : Course), s.alive = true → s.idle → s.drivePort.sending ≠ none →
    let s1 := s.withClock (s.clock + elapsed)
    let free := s1.withDrivePort { s.drivePort with sending := none }
    let sent := fun (o : Outgoing) (rest : List Outgoing) =>
      if o.origin = .poisoned then s1.withDrivePort { s.drivePort with sending := some o, ready := rest }
      else ((s1.withDrivePort
        { s.drivePort with
          sending := some o, ready := rest, lastSeq := some (sequenceOf o.bytes)
          lastTx := some (s.clock + elapsed) }).withWindow (some (sequenceOf o.bytes))).withAcq
        (Quad.ofFn fun r => { s.acq.get r with taken := false })
    let begins := fun (u : State) (d : Received) =>
      ((u.withCellPort { s.cellPort with waiting := none }).demandPassage d.bytes d.moment).runAccepted course 0
    (s.drivePort.ready = [] →
      (s.cellPort.waiting = none → exec (.demandSent elapsed course) s = .next free) ∧
      ∀ d, s.cellPort.waiting = some d → exec (.demandSent elapsed course) s = .next (begins free d)) ∧
    ∀ o rest, s.drivePort.ready = o :: rest →
      (s.cellPort.waiting = none ∨ (∃ x ∈ o :: rest, x.origin ≠ .substitute) →
        exec (.demandSent elapsed course) s = .next (sent o rest)) ∧
      ∀ d, s.cellPort.waiting = some d → (∀ x ∈ o :: rest, x.origin = .substitute) →
        exec (.demandSent elapsed course) s = .next (begins (sent o rest) d)

/-- A good Feedback: its slots are examined against the window (R5, R6), and it goes up with the last sent sequence, the
Status block and, in a free area, the ready response, its drive fields unchanged and its check word right (R127, R129).
That a slot without POSITION_VALID keeps the pending sample of an earlier window is the model's (log entry 30). -/
def Obligations.GoodFeedbackExaminedAndCompleted : Prop :=
  ∀ (s : State) (elapsed : Nat) (bytes : List Byte),
    s.alive = true → s.cellPort.sending = none → goodFeedback bytes = true →
    ∃ a v f, exec (.feedbackReception elapsed bytes) s =
        .next ((((s.withClock (s.clock + elapsed)).withAcq a).withCellPort
          { s.cellPort with sending := some f }).withService v) ∧
      (∀ r,
        let p := s.active.slotOf r
        (s.window = some (echoOf bytes p) ∧ (s.acq.get r).taken = false →
          ((statusOf bytes p).positionValid = true →
            a.get r = { s.acq.get r with
              status := statusOf bytes p, pendingSample := some (positionOf bytes p), taken := true }) ∧
          ((statusOf bytes p).positionValid = false → a.get r = { s.acq.get r with status := statusOf bytes p })) ∧
        (¬ (s.window = some (echoOf bytes p) ∧ (s.acq.get r).taken = false) →
          a.get r = { s.acq.get r with lateCount := min 65535 ((s.acq.get r).lateCount + 1) })) ∧
      goodFeedback f.bytes = true ∧ f.bytes.take 2 = bytes.take 2 ∧
      halfAt f.bytes 2 = s.drivePort.lastSeq.getD 0 ∧
      (f.bytes.drop 4).take 36 = (bytes.drop 4).take 36 ∧ (f.bytes.drop 40).take 33 = statusBlock s ∧
      (∀ p, responseSource bytes = 0 → s.service.progress = some .performed → s.service.ready = some p →
        f.carries = true ∧ (f.bytes.drop 73).take 39 = responseBytes p ∧
        v = { s.service with progress := some .answered }) ∧
      (¬ (responseSource bytes = 0 ∧ s.service.progress = some .performed ∧ s.service.ready ≠ none) →
        f.carries = false ∧ (f.bytes.drop 73).take 39 = (bytes.drop 73).take 39 ∧ v = s.service)

/-- The Status block shows each field at its place and by its codes: group states and levels, part flags, roller flags, coupling
torques, saturated errors, the low half of the cycle count and the Last Refused Tag (R118, R128, R39). The FAULT line is
asserted while the Restart flag is set, an entry's kind is in Line Sources or the RESET input is held (R105).
That R38's flags of the earlier stage are those the stage forms, beside which the mark is shown as it stands (R128), is
deduced (log entry 31). That the layout of R118 and R128 is the whole block, with no held speed, no drive status and no
ENABLE flag, is the model's (log entries 32 and 34). -/
def Obligations.StatusBlockLayout : Prop :=
  ∀ s : State, (statusBlock s).length = 33 ∧
    (s.faultLine = true ↔ s.reaction.restart = true ∨ s.resetHeld = true ∨
      ∃ f ∈ s.reaction.faults, (s.images.active.field 8).getLsbD (f.kind.code - 1) = true) ∧
    (∀ g : Chan,
      byteAt (statusBlock s) g.val = (match (s.coupling.get g).state with
        | .detached => 0 | .engaging => 1 | .coupled => 2 | .releasing => 3 | .suspended => 4) ∧
      byteAt (statusBlock s) (4 + g.val) = (match s.reaction.levels.get g with
        | .none => 0 | .note => 1 | .degrade => 2 | .hold => 3 | .safe => 4)) ∧
    (let w : Half := halfAt (statusBlock s) 8;
      w.getLsbD 0 = s.reaction.restart ∧ w.getLsbD 1 = (s.timer.link == .lost) ∧ w.getLsbD 2 = s.faultLine ∧
      w.getLsbD 3 = (s.images.commit.state != .none) ∧ w.getLsbD 4 = s.images.transfer.isOpen ∧
      w.getLsbD 5 = (s.history.state == .postTrigger) ∧ w.getLsbD 6 = (s.history.state == .frozen) ∧
      w.getLsbD 7 = s.service.overrun ∧ w.getLsbD 8 = s.images.writing.isSome ∧
      w.getLsbD 9 = s.images.setupLine ∧ w.getLsbD 10 = s.reaction.estopCause ∧ ∀ i, 11 ≤ i → w.getLsbD i = false) ∧
    (∀ r : Chan, let b : Byte := byteAt (statusBlock s) (10 + r.val);
      b.getLsbD 0 = (s.rollerRef.get r).included ∧ b.getLsbD 1 = (s.rollerRef.get r).excluded ∧
      b.getLsbD 2 = (s.acq.get r).staleFlag ∧ b.getLsbD 3 = (s.torque.get r).clamped ∧
      (b >>> 4).toNat = (match (s.composer.get r).phase with | .off => 0 | .ramp => 1 | .atClear => 2 | .return_ => 3)) ∧
    (∀ r : Chan, halfAt (statusBlock s) (14 + 2 * r.val) = BitVec.ofInt 16 (s.torque.get r).qOut ∧
      halfAt (statusBlock s) (22 + 2 * r.val) = BitVec.ofInt 16 (max (-32767) (min 32767 (s.rollerRef.get r).e))) ∧
    halfAt (statusBlock s) 30 = s.timer.cycleCount.setWidth 16 ∧
    byteAt (statusBlock s) 32 = s.service.lastRefusedTag

/-- A Feedback with a bad check word is counted and reported, and sent up poisoned unless it is shorter than 3 bytes; no
slot is examined and a ready response waits (R120, R130, R131). -/
def Obligations.BadFeedbackPoisonedAndCounted : Prop :=
  ∀ (s : State) (elapsed : Nat) (bytes : List Byte),
    s.alive = true → s.cellPort.sending = none → goodFeedback bytes = false →
    ∃ r c h d, exec (.feedbackReception elapsed bytes) s =
        .next ((((((s.withClock (s.clock + elapsed)).withDrivePort
          { s.drivePort with feedbackErrors := min 65535 (s.drivePort.feedbackErrors + 1) }).withReaction
          r).withCoupling c).withHistory h).withCellPort d) ∧
      recordsOccurrence s.reaction.faults r.faults .feedbackCheck 0 s.timer.cycleCount ∧
      r.restart = s.reaction.restart ∧ r.estopCause = s.reaction.estopCause ∧
      r.exclusions = s.reaction.exclusions ∧
      (∀ g, (r.levels.get g).code = max (s.reaction.levels.get g).code (s.configuredLevel .feedbackCheck).code) ∧
      (∀ g, afterLevelChange (s.coupling.get g) (c.get g) (s.reaction.levels.get g) (r.levels.get g)) ∧
      afterOffer s .feedbackCheck h ∧
      (bytes.length < 3 → d = s.cellPort) ∧
      (3 ≤ bytes.length → ∃ p, poisonedCopy bytes p ∧ d = { s.cellPort with sending := some ⟨p, false⟩ })

/-- FEEDBACK_SENT: a carried response is complete, the head leaves and the next entry becomes the head and is performed; a
telegram that carries none ends its passage only; and a waiting Feedback begins its passage (R120, R129, R161).
The end of no sending is the model's (log entry 4), and so is that the queue advances before a waiting Feedback begins (log
entry 25). -/
def Obligations.FeedbackSentAdvancesQueue : Prop :=
  ∀ (s : State) (elapsed : Nat), s.alive = true →
    (s.cellPort.sending = none → exec (.feedbackSent elapsed) s = .next (s.withClock (s.clock + elapsed))) ∧
    ∀ f, s.cellPort.sending = some f →
      let s1 := (s.withClock (s.clock + elapsed)).withCellPort { s.cellPort with sending := none }
      let goesOn := fun (u : State) =>
        (s.drivePort.waiting = none → exec (.feedbackSent elapsed) s = .next u) ∧
        ∀ w, s.drivePort.waiting = some w →
          exec (.feedbackSent elapsed) s = .next ((u.withDrivePort { s.drivePort with waiting := none }).feedbackPassage w)
      (f.carries = false → goesOn s1) ∧
      (f.carries = true → s.restartDue = false →
        (∀ q, s.service.queue = [q] →
          goesOn (s1.withService { s.service with queue := [], progress := none, ready := none })) ∧
        ∀ q q' rest, s.service.queue = q :: q' :: rest →
          goesOn ((s1.withService
            { s.service with queue := q' :: rest, progress := some .waiting, ready := none }).performKind q'))

/-- When the Feedback carrying an accepted RESTART's DONE has gone up the unit is reset like a pulse on the RESET input:
every block at its reset values, the store loaded, the Restart flag set and the queue emptied (R169).
Two reset values of the torque fields are the model's (log entry 15). -/
def Obligations.RestartResetsAfterAnswer : Prop :=
  ∀ (s : State) (elapsed : Nat) (f : SentFeedback) (q : Request) (rest : List Request) (p : Response),
    s.alive = true → s.cellPort.sending = some f → f.carries = true → s.service.queue = q :: rest →
    q.code = 10 → s.service.ready = some p → p.outcome = .done →
    ∃ t, exec (.feedbackSent elapsed) s = .next t ∧ t.blocksAtReset ∧ t.imagesLoaded ∧ t.linesSampled ∧
      t.powered = s.powered ∧ t.resetHeld = s.resetHeld ∧ t.estopInput = s.estopInput ∧
      t.setupInput = s.setupInput ∧ t.clock = s.clock + elapsed ∧ s.storeKept t

/-! ### Arithmetic and speeds -/

/-- Rounded is to the nearest with ties away from zero, truncated is toward zero, clamped is to the nearer bound (section 3.2
of the introduction); the period codes select the periods and K_T of section 3.3; and the position delta is the difference
modulo 2^32 read as signed, the short way round, negated exactly for direction invert (R7). -/
def Obligations.ArithmeticPeriodAndDelta : Prop :=
  (∀ n d : Int, 0 < d →
    2 * |n - d * roundDiv n d| ≤ d ∧ (2 * |n - d * roundDiv n d| = d → |n| < |d * roundDiv n d|)) ∧
  (∀ n d : Int, 0 < d →
    |truncDiv n d| * d ≤ |n| ∧ |n| < (|truncDiv n d| + 1) * d ∧ 0 ≤ n * truncDiv n d) ∧
  (∀ lo hi x : Int, lo ≤ hi →
    lo ≤ clamp lo hi x ∧ clamp lo hi x ≤ hi ∧ ∀ y, lo ≤ y → y ≤ hi → |x - clamp lo hi x| ≤ |x - y|) ∧
  (∀ img : Image,
    (img.periodCode = 0 → img.period = 250 ∧ img.speedScale = 64) ∧
    (img.periodCode = 1 → img.period = 500 ∧ img.speedScale = 32) ∧
    (img.periodCode = 2 → img.period = 1000 ∧ img.speedScale = 16) ∧
    (img.periodCode = 3 → img.period = 2000 ∧ img.speedScale = 8)) ∧
  ∀ c last : Word,
    (-(2 ^ 31) ≤ positionDelta c last false ∧ positionDelta c last false ≤ 2 ^ 31 - 1 ∧
      ∃ m : Int, positionDelta c last false = c.toNat - last.toNat + m * 2 ^ 32) ∧
    positionDelta c last true = -positionDelta c last false

/-- Speed settling closes the window and settles each roller by the first case of R10: unconfigured (R17), forced re-seed
(R18), not stale, stale (R12), seeding and re-seeding (R13), implausible (R9) or accepted (R11), the speed by R7 and R8;
then the causes stand by R14 and R16. Each implausible sample is an occurrence, and so is each change of a cause to present;
a change to absent ends it, and a cause that stays reports nothing (R9, R14, R16, with what comes of it by R94 to R97, R99
and R110). Nothing else changes but the model's draw count (log entry 7).
`sent` says whether the Drive port had sent a sequence before the computation. -/
def Obligations.SettlingFollowsCases : Prop :=
  (∀ (s : State) (old : Option Image) (sent : Bool) (r : Chan),
    let img := s.active
    let a := s.acq.get r
    let t := s.speedSettling old sent
    let b := t.acq.get r
    let forced := ∃ o, old = some o ∧ (img.pitch r ≠ o.pitch r ∨ img.roller r 4 ≠ o.roller r 4 ∨
      img.slotOf r ≠ o.slotOf r ∨ img.periodCode ≠ o.periodCode)
    let limit := img.staleLimit r
    let k := if old = none then a.k else min a.k (limit + 1)
    let stale := b.v = a.v ∧ b.cLast = a.cLast ∧ b.seeded = a.seeded ∧ b.staleFlag = true ∧
      b.staleCount = min 255 (a.staleCount + 1) ∧ (a.seeded = true → b.k = min (k + 1) (limit + 1)) ∧
      (a.seeded = false → b.k = 1)
    t.window = none ∧ b.pendingSample = none ∧ b.status = a.status ∧ b.lateCount = a.lateCount ∧
    b.feedbackStale = (img.configured r && decide (limit ≤ b.staleCount)) ∧
    b.driveFault = (img.configured r && b.status.fault) ∧
    (img.pitch r = 0 ∨ forced →
      b.v = 0 ∧ b.seeded = false ∧ b.k = 1 ∧ b.staleCount = 0 ∧ b.staleFlag = false) ∧
    (img.pitch r ≠ 0 → ¬ forced →
      (a.pendingSample = none → sent = false →
        b.v = a.v ∧ b.k = k ∧ b.staleCount = a.staleCount ∧ b.staleFlag = false ∧ b.seeded = a.seeded ∧
        b.cLast = a.cLast) ∧
      (a.pendingSample = none → sent = true → stale) ∧
      ∀ c, a.pendingSample = some c →
        (a.seeded = false ∨ k = limit + 1 →
          b.cLast = c ∧ b.v = a.v ∧ b.seeded = true ∧ b.k = 1 ∧ b.staleCount = 0 ∧ b.staleFlag = false) ∧
        (a.seeded = true → k ≠ limit + 1 →
          let v := roundDiv (positionDelta c a.cLast (img.invert r) * img.pitch r * img.speedScale) (65536 * k)
          (|v| ≤ img.vmax r →
            b.cLast = c ∧ b.v = v ∧ b.seeded = true ∧ b.k = 1 ∧ b.staleCount = 0 ∧ b.staleFlag = false) ∧
          (img.vmax r < |v| →
            stale ∧ ∃ f ∈ t.reaction.faults, f.key = (.speedImplausible, r) ∧ f.last = s.timer.cycleCount)))) ∧
  ∀ (s : State) (old : Option Image) (sent : Bool),
    let t := s.speedSettling old sent
    (s.reportsTo t fun k r => k = .speedImplausible ∧
      let img := s.active
      let a := s.acq.get r
      let limit := img.staleLimit r
      let n := if old = none then a.k else min a.k (limit + 1)
      img.pitch r ≠ 0 ∧
      (∀ o, old = some o → img.pitch r = o.pitch r ∧ img.roller r 4 = o.roller r 4 ∧ img.slotOf r = o.slotOf r ∧
        img.periodCode = o.periodCode) ∧
      a.seeded = true ∧ n ≠ limit + 1 ∧
      ∃ c, a.pendingSample = some c ∧ img.vmax r <
        |roundDiv (positionDelta c a.cLast (img.invert r) * img.pitch r * img.speedScale) (65536 * n)|) ∧
    t = (((((s.withWindow none).withAcq t.acq).withReaction t.reaction).withCoupling t.coupling).withHistory
      t.history).withDraws t.draws

/-! ### The reference -/

/-- A ratio curve holds its end values at and beyond its ends (R28), and between them gives the segment's value, rounded once
as a whole, and exactly r_j at a breakpoint (R29). -/
def Obligations.CurveEvaluation : Prop :=
  ∀ (img : Image) (c m : Nat) (x : Int), img.curveCount c = m → 2 ≤ m →
    (∀ j, j + 1 < m → img.curveSpeed c j < img.curveSpeed c (j + 1)) →
    (x ≤ img.curveSpeed c 0 → curveValue img c x = img.curveRatio c 0) ∧
    (img.curveSpeed c (m - 1) ≤ x → curveValue img c x = img.curveRatio c (m - 1)) ∧
    (∀ j, j < m → curveValue img c (img.curveSpeed c j) = img.curveRatio c j) ∧
    ∀ j, j + 1 < m → img.curveSpeed c 0 < x → img.curveSpeed c j ≤ x → x < img.curveSpeed c (j + 1) →
      curveValue img c x =
        roundDiv
          (img.curveRatio c j * (img.curveSpeed c (j + 1) - img.curveSpeed c j) +
            (img.curveRatio c (j + 1) - img.curveRatio c j) * (x - img.curveSpeed c j))
          (img.curveSpeed c (j + 1) - img.curveSpeed c j)

/-- A group with two included members and a contributing one forms its index speed (R25), reference (R31) and, for each
included member, ratio (R26), normalised speed (R30), target (R32) and error (R33); a roller without a reference has
all four at 0 (R24, R34). The stage leaves the excluded mark as it stands (R21).
That x and u_ref are 0 in an empty or single-member group is the model's choice (log entry 27). -/
def Obligations.ReferenceFormedFromContributors : Prop :=
  ∀ (s : State) (g : Chan),
    let t := s.referenceStage
    let included := (s.active.members g).filter fun r =>
      s.active.isCouplingGroup g && decide (0 < s.active.pitch r) && !(s.rollerRef.get r).excluded
    let contributing := included.filter fun r => decide (0 < s.active.weight r)
    let v := fun r => (s.acq.get r).v
    let R := fun r => (t.rollerRef.get r).ratio
    (t.groupRef.get g).includedCount = included.length ∧ (t.groupRef.get g).contributingCount = contributing.length ∧
    (∀ r ∈ s.active.members g, (t.rollerRef.get r).included = decide (r ∈ included) ∧
      (t.rollerRef.get r).excluded = (s.rollerRef.get r).excluded) ∧
    (2 ≤ included.length → 1 ≤ contributing.length →
      (t.groupRef.get g).present = true ∧
      (t.groupRef.get g).x =
        roundDiv (contributing.map fun r => s.active.weight r * |v r|).sum (contributing.map s.active.weight).sum ∧
      (t.groupRef.get g).uRef =
        roundDiv (contributing.map fun r => s.active.weight r * roundDiv (v r * 65536) (R r)).sum
          (contributing.map s.active.weight).sum ∧
      (∀ r ∈ included,
        R r = (if s.active.curveRef r = 0 then s.active.fixedRatio r
          else curveValue s.active (s.active.curveRef r) (t.groupRef.get g).x) ∧
        (t.rollerRef.get r).u = roundDiv (v r * 65536) (R r) ∧
        (t.rollerRef.get r).t = roundDiv ((t.groupRef.get g).uRef * R r) 65536 ∧
        (t.rollerRef.get r).e = (t.rollerRef.get r).t - v r) ∧
      ∀ r ∈ s.active.members g, r ∉ included →
        R r = 0 ∧ (t.rollerRef.get r).u = 0 ∧ (t.rollerRef.get r).t = 0 ∧ (t.rollerRef.get r).e = 0) ∧
    (¬ (2 ≤ included.length ∧ 1 ≤ contributing.length) →
      (t.groupRef.get g).present = false ∧ (t.groupRef.get g).x = 0 ∧ (t.groupRef.get g).uRef = 0 ∧
      ∀ r ∈ s.active.members g,
        R r = 0 ∧ (t.rollerRef.get r).u = 0 ∧ (t.rollerRef.get r).t = 0 ∧ (t.rollerRef.get r).e = 0)

/-- An ENGAGING or COUPLED group that loses its reference reports GROUP_LOST with this computation's count and is RELEASING
with the suspend marker set before the coupling torque stage (R35, R36, R52); a group that is not coupling has no such
cause. Each change of the cause is reported, and nothing else changes but the stage's records (R90, R94 to R97) and the model's draw count (log entry 7). -/
def Obligations.LostReferenceReleasesGroup : Prop :=
  (∀ (s : State) (g : Chan), s.active.valid = true →
    ((s.coupling.get g).state.couples = true → s.formsReference g = false → (s.groupRef.get g).groupLost = false →
      (s.reaction.levels.get g).code ≤ 2 →
      (s.referenceStage.groupRef.get g).groupLost = true ∧
      s.referenceStage.coupling.get g = { s.coupling.get g with state := .releasing, suspend := true } ∧
      3 ≤ (s.referenceStage.reaction.levels.get g).code ∧
      (∃ f ∈ s.referenceStage.reaction.faults,
        f.key = (.groupLost, g) ∧ f.causePresent = true ∧ f.last = s.timer.cycleCount) ∧
      ∀ r ∈ s.active.members g, (s.referenceStage.rollerRef.get r).e = 0) ∧
    ((s.coupling.get g).state.couples = false → (s.referenceStage.groupRef.get g).groupLost = false)) ∧
  ∀ s : State,
    let t := s.referenceStage
    s.reportsCauses t ∧
    t = (((((s.withGroupRef t.groupRef).withRollerRef t.rollerRef).withReaction t.reaction).withCoupling
      t.coupling).withHistory t.history).withDraws t.draws

/-! ### The coupling torque -/

/-- The coupling torque of an included roller of a coupling group: the accumulated error with its anti-windup (R44, R45), the
PI term within Qeff (R46), the slew limit (R47) and the hard clamp (R48). -/
def Obligations.CouplingTorqueOfIncludedRoller : Prop :=
  ∀ (s : State) (g r : Chan), s.active.groupOf r = some g → s.active.isCouplingGroup g = true →
    (s.rollerRef.get r).included = true →
    (s.coupling.get g).state = .engaging ∨ (s.coupling.get g).state = .coupled →
    let p := s.torque.get r
    let n := s.couplingStage.torque.get r
    let e := (s.rollerRef.get r).e
    let alim := s.active.alim g
    let qeff : Int := if (s.coupling.get g).state = .engaging
      then ((s.active.qlim r * (s.coupling.get g).step / s.active.engageCycles g : Nat) : Int)
      else (s.active.qlim r : Int)
    let skip := (0 < e ∧ (p.authSide = .upper ∨ p.rangeSide = .upper)) ∨
      (e < 0 ∧ (p.authSide = .lower ∨ p.rangeSide = .lower))
    let q := roundDiv (s.active.kp g * e * 256 + s.active.ki g * n.a) 65536
    let qc := max (-qeff) (min qeff q)
    (skip → n.a = p.a) ∧ (¬ skip → n.a = max (-alim) (min alim (p.a + e))) ∧
    (qeff < q → n.authSide = .upper) ∧ (q < -qeff → n.authSide = .lower) ∧
    (-qeff ≤ q → q ≤ qeff → n.authSide = .none) ∧
    (s.active.slew r = 0 → n.qOut = qc) ∧
    (s.active.slew r ≠ 0 →
      n.qOut = max (-qeff) (min qeff (p.qOut + max (-s.active.slew r) (min (s.active.slew r) (qc - p.qOut))))) ∧
    n.rangeSide = p.rangeSide ∧ (n.qeff : Int) = qeff

/-- The release ramp of an included member of a RELEASING group (R49), the ramp-out of a member that is not included (R50), and
no coupling at rest or outside a coupling group (R51). -/
def Obligations.ReleaseRampTowardZero : Prop :=
  ∀ (s : State) (g r : Chan), s.active.groupOf r = some g →
    let p := s.torque.get r
    let n := s.couplingStage.torque.get r
    let step := s.active.releaseStep g
    let ramped := (|p.qOut| ≤ step → n.qOut = 0) ∧
      (step < |p.qOut| → 0 < p.qOut → n.qOut = p.qOut - step) ∧
      (step < |p.qOut| → p.qOut < 0 → n.qOut = p.qOut + step)
    (s.active.isCouplingGroup g = true → (s.coupling.get g).state = .releasing → (s.rollerRef.get r).included = true →
      ramped ∧ n.authSide = .none ∧ n.rangeSide = p.rangeSide ∧
      ((s.couplingStage.coupling.get g).state = .releasing → n.a = p.a)) ∧
    (s.active.isCouplingGroup g = true → (s.coupling.get g).state.atRest = false →
      (s.rollerRef.get r).included = false →
      ramped ∧ n.authSide = .none ∧ n.rangeSide = p.rangeSide ∧ (n.qOut = 0 → n.a = 0) ∧
      (n.qOut ≠ 0 → n.a = p.a)) ∧
    (s.active.isCouplingGroup g = false ∨ (s.coupling.get g).state.atRest = true →
      n.qOut = 0 ∧ n.a = 0 ∧ n.authSide = .none ∧ n.rangeSide = p.rangeSide)

/-- After its members are settled an ENGAGING group with a reference advances its step, or is COUPLED at the last one (R55);
a RELEASING group whose torques are all 0 ends its release, SUSPENDED with the marker set and DETACHED otherwise (R58);
no other group changes. -/
def Obligations.GroupAdvancesAfterSettling : Prop :=
  ∀ (s : State) (g : Chan),
    let c := s.coupling.get g
    let n := s.couplingStage.coupling.get g
    let E := s.active.engageCycles g
    (c.state = .engaging → (s.groupRef.get g).present = true →
      (c.step < E → n = { c with step := c.step + 1 }) ∧ (c.step = E → n = { c with state := .coupled })) ∧
    (c.state = .engaging → (s.groupRef.get g).present = false → n = c) ∧
    (c.state = .releasing →
      ((∀ r ∈ s.active.members g, (s.couplingStage.torque.get r).qOut = 0) →
        n = ⟨if c.suspend then .suspended else .detached, 1, false⟩ ∧
        ∀ r ∈ s.active.members g,
          (s.couplingStage.torque.get r).a = 0 ∧ (s.couplingStage.torque.get r).authSide = .none) ∧
      ((∃ r ∈ s.active.members g, (s.couplingStage.torque.get r).qOut ≠ 0) → n = c)) ∧
    (c.state = .coupled ∨ c.state.atRest = true → n = c)

/-! ### Composition -/

/-- The composed torque is the demand plus the coupling torque, trimmed with one rounding (R66, R67) and clamped (R68); a bite
counts in OFF and RETURN only, for the side, the clamped flag and the saturation run (R48, R68, R69), with or without a
commit copy at this computation (R76). TORQUE_SATURATION occurs where its cause becomes present, ends where it becomes
absent, and a standing cause reports nothing (R69, with what comes of it by R94 to R97, R99 and R110). Nothing else changes
but the model's draw count (log entry 7).
That the level of a single-member group counts as well is inferred (log entry 11). -/
def Obligations.ComposedTorqueTrimmedAndClamped : Prop :=
  (∀ (s : State) (old : Option Image) (r : Chan) (held : Quad Slot), s.timer.held = some held →
    s.active.tmin r ≤ s.active.tmax r →
    let t := s.compositionStage old
    let T := (held.get (slotPosition s.active r)).torque.toInt + (s.torque.get r).qOut
    let T' := roundDiv (T * (262144 + s.active.gain r) * 16 + s.active.offset r * 262144) (262144 * 16)
    let level := match s.active.groupOf r with | some g => s.reaction.levels.get g | none => .none
    let counts := level ≠ .safe
    let bites := T' < s.active.tmin r ∨ s.active.tmax r < T'
    let n := t.composer.get r
    let q := t.torque.get r
    n.composed = max (s.active.tmin r) (min (s.active.tmax r) T') ∧
    (counts → (s.active.tmax r < T' → q.rangeSide = .upper) ∧ (T' < s.active.tmin r → q.rangeSide = .lower)) ∧
    (¬ counts ∨ ¬ bites → q.rangeSide = .none ∧ n.runCount = 0) ∧
    (counts → bites → n.runCount = min 255 ((s.composer.get r).runCount + 1)) ∧
    n.saturation = decide (s.active.nsat ≤ n.runCount) ∧
    (q.clamped = true ↔ (s.torque.get r).authSide ≠ .none ∨ (counts ∧ bites)) ∧
    q.qOut = (s.torque.get r).qOut ∧ q.a = (s.torque.get r).a ∧ q.authSide = (s.torque.get r).authSide) ∧
  ∀ (s : State) (old : Option Image),
    let t := s.compositionStage old
    s.reportsCauses t ∧
    t = (((((s.withComposer t.composer).withTorque t.torque).withReaction t.reaction).withCoupling
      t.coupling).withHistory t.history).withDraws t.draws

/-- Substitution: the phase follows the level (R70), RAMP walks to Clear and ends AT_CLEAR (R71), AT_CLEAR holds (R72), RETURN
walks to the composed torque and ends OFF (R73), and ENABLE is the demand's flag except AT_CLEAR (R74, R77). After a commit
copy, `old` being the image it replaced, the records are first clamped into the new range, and a RAMP or AT_CLEAR whose
range or Clear changed starts a ramp from there (R76).
That the roller of a single-member group is substituted like any other is inferred (log entry 11). -/
def Obligations.SubstitutionWalksToClear : Prop :=
  ∀ (s : State) (old : Option Image) (r : Chan) (held : Quad Slot), s.timer.held = some held →
    let img := s.active
    let c := s.composer.get r
    let n := (s.compositionStage old).composer.get r
    let kept := fun (x : Int) => if old = none then x else clamp (img.tmin r) (img.tmax r) x
    let last := kept c.lastWritten
    let renewed := (old.any fun o =>
      decide (img.tmin r ≠ o.tmin r ∨ img.tmax r ≠ o.tmax r ∨ img.clearTorque r ≠ o.clearTorque r)) &&
        decide (c.phase = .ramp ∨ c.phase = .atClear)
    let phase := if renewed then .ramp else c.phase
    let start := if renewed then last else kept c.rampStart
    let clear := img.clearTorque r
    let step := img.safeStep
    let safe := ∃ g, img.groupOf r = some g ∧ s.reaction.levels.get g = .safe
    let walked := fun target : Int =>
      (last < target → n.lastWritten = last + step) ∧ (target < last → n.lastWritten = last - step)
    (safe → phase ≠ .atClear →
      n.rampStart = (if phase = .ramp then start else last) ∧
      (|clear - last| ≤ step → n.lastWritten = clear ∧ n.phase = .atClear) ∧
      (step < |clear - last| → walked clear ∧ n.phase = .ramp)) ∧
    (safe → phase = .atClear → n.lastWritten = clear ∧ n.phase = .atClear ∧ n.rampStart = start) ∧
    (¬ safe → phase = .off → n.lastWritten = n.composed ∧ n.phase = .off ∧ n.rampStart = start) ∧
    (¬ safe → phase ≠ .off →
      n.rampStart = start ∧
      (|n.composed - last| ≤ step → n.lastWritten = n.composed ∧ n.phase = .off) ∧
      (step < |n.composed - last| → walked n.composed ∧ n.phase = .return_)) ∧
    n.enable = (if n.phase = .atClear then false else (held.get (slotPosition img r)).enable)

/-! ### Monitoring and history -/

/-- The monitor of an included roller of a COUPLED group adds the error, forms the truncated mean when the block is full (R81)
and judges it (R82 to R84); the record of any other roller is cleared (R80). Each cause that becomes present occurs, each
that becomes absent, a cleared one included, ends and lowers no level, and a standing one reports nothing (R80, R82 to
R84, with what comes of it by R94 to R97, R99 and R110): a SYNC_FAULT or POSITION_FAULT takes the COUPLED group to
RELEASING with the suspend marker set (R57, R83, R84, R86). Nothing else changes but the model's draw count (log entry 7). -/
def Obligations.MonitorAveragesBlocks : Prop :=
  (∀ (s : State) (r : Chan),
    let m := s.monitor.get r
    let n := s.monitoringStage.monitor.get r
    let e := (s.rollerRef.get r).e
    (∀ g, s.active.groupOf r = some g → (s.coupling.get g).state = .coupled → (s.rollerRef.get r).included = true →
      let M := s.active.blockLength g
      let w2 := s.active.w2 g
      n.monitored = true ∧
      (m.blockFill + 1 ≠ M →
        n.blockSum = m.blockSum + e ∧ n.blockFill = m.blockFill + 1 ∧ n.latest = m.latest ∧
        n.persistence = m.persistence ∧ n.syncFault = m.syncFault) ∧
      (m.blockFill + 1 = M →
        let result := truncDiv (m.blockSum + e) M
        n.latest = some result ∧ n.blockSum = 0 ∧ n.blockFill = 0 ∧
        (|result| ≤ w2 → n.persistence = 0 ∧ n.syncFault = false) ∧
        (w2 < |result| → n.persistence = min 255 (m.persistence + 1) ∧
          n.syncFault = (m.syncFault || decide (s.active.persistence g ≤ n.persistence)))) ∧
      (n.syncWarn = true ↔ ∃ x, n.latest = some x ∧ s.active.w1 g < |x|) ∧
      (n.positionFault = true ↔ s.active.afault g < |(s.torque.get r).a|)) ∧
    ((∀ g, s.active.groupOf r = some g → (s.coupling.get g).state = .coupled → (s.rollerRef.get r).included = false) →
      n = Monitor.reset)) ∧
  (∀ (s : State) (r g : Chan),
    let m := s.monitor.get r
    let t := s.monitoringStage
    let n := t.monitor.get r
    s.active.valid = true → s.active.groupOf r = some g → (s.coupling.get g).state = .coupled →
    (s.reaction.levels.get g).code ≤ 2 →
    (m.syncFault = false ∧ n.syncFault = true) ∨ (m.positionFault = false ∧ n.positionFault = true) →
    3 ≤ (t.reaction.levels.get g).code ∧
    t.coupling.get g = { s.coupling.get g with state := .releasing, suspend := true }) ∧
  ∀ s : State,
    let t := s.monitoringStage
    s.reportsCauses t ∧
    t = ((((s.withMonitor t.monitor).withReaction t.reaction).withCoupling t.coupling).withHistory
      t.history).withDraws t.draws

/-- The history stage adds this computation's record by the buffer's state (R109), with the values and flags of R108, and the
words a READ sees (R108).
That a record holds no drive status, which R40 names, is the model's (log entry 32). -/
def Obligations.HistoryStageRecords : Prop :=
  ∀ s : State,
    let h := s.history
    let n := s.historyStage.history
    let kept := if h.ring.length < 64 then h.ring else h.ring.drop 1
    (∃ rec : CycleRecord,
      (h.state = .recording → n = { h with ring := kept ++ [rec] }) ∧
      (h.state = .postTrigger → n.ring = kept ++ [rec] ∧ n.remainder = h.remainder - 1 ∧
        (h.remainder ≤ 1 → n.state = .frozen) ∧ (1 < h.remainder → n.state = .postTrigger)) ∧
      (h.state = .frozen → n = h) ∧
      rec.count = s.timer.cycleCount ∧
      (∀ r : Chan, let x := rec.rollers.get r
        x.v = (s.acq.get r).v ∧ x.e = (if (s.rollerRef.get r).included then (s.rollerRef.get r).e else 0) ∧
        x.qOut = (s.torque.get r).qOut ∧ x.written = (s.composer.get r).lastWritten ∧
        x.stale = (s.acq.get r).staleFlag ∧ x.included = (s.rollerRef.get r).included ∧
        x.clamped = (s.torque.get r).clamped ∧ (x.substituted = true ↔ (s.composer.get r).phase ≠ .off)) ∧
      rec.words.getD 0 0 = rec.count ∧
      (∀ r : Chan, let x := rec.rollers.get r
        rec.words.getD (1 + 4 * r.val) 0 = BitVec.ofInt 32 x.v ∧ rec.words.getD (2 + 4 * r.val) 0 = BitVec.ofInt 32 x.e ∧
        rec.words.getD (3 + 4 * r.val) 0 = BitVec.ofInt 32 x.qOut ∧
        rec.words.getD (4 + 4 * r.val) 0 = BitVec.ofInt 32 x.written ∧
        (rec.words.getD 17 0).getLsbD (4 * r.val) = x.stale ∧
        (rec.words.getD 17 0).getLsbD (4 * r.val + 1) = x.included ∧
        (rec.words.getD 17 0).getLsbD (4 * r.val + 2) = x.clamped ∧
        (rec.words.getD 17 0).getLsbD (4 * r.val + 3) = x.substituted) ∧
      ∀ i, 18 ≤ i → rec.words.getD i 0 = 0)

/-! ### Requests that read -/

/-- READ is judged in the order object, count, range; a DONE carries the object's words at the index onward, the rest 0, a
refusal all words 0, and reading changes nothing but the Service unit's answer (R164). -/
def Obligations.ReadReturnsObjectWords : Prop :=
  ∀ (area : RequestArea) (s : State), s.takesAtOnce →
    let object := area.object.toNat
    let count := area.count.toNat
    let last := match object with | 1 => 253 | 2 => 253 | 3 => 231 | 4 => 287 | 5 => 7 | _ => 2047
    ∃ p, exec (.read area) s = .next (s.answered ⟨1, area⟩ p) ∧
      p.kind = 1 ∧ p.tag = area.tag ∧ p.index = area.index ∧ p.count = area.count ∧ p.data.length = 8 ∧
      (1 ≤ object ∧ object ≤ 6 ∧ 1 ≤ count ∧ count ≤ 8 ∧ area.index.toNat + count - 1 ≤ last →
        p.outcome = .done ∧
        ∀ j, j < 8 → p.data.getD j 0 =
          if j < count then (s.asHead ⟨1, area⟩).objectWord object (area.index.toNat + j) else 0) ∧
      (¬ (1 ≤ object ∧ object ≤ 6 ∧ 1 ≤ count ∧ count ≤ 8 ∧ area.index.toNat + count - 1 ≤ last) →
        p.outcome = .refusedRange ∧ ∀ j, p.data.getD j 0 = 0)

/-- The objects of a READ: the images' fields, 232 runtime words by blocks (R165), Fault store entries of eight words and the
eight counters (R166), and history records of 32 words (R114). -/
def Obligations.ReadableObjectLayouts : Prop :=
  ∀ s : State,
    (∀ i, s.objectWord 1 i = s.images.active.field i ∧ s.objectWord 2 i = s.images.staging.field i) ∧
    (let flag := fun (b : Bool) => (if b then 1 else 0 : Word)
      let num := fun (n : Nat) => BitVec.ofNat 32 n
      let int := fun (x : Int) => BitVec.ofInt 32 x
      let side := fun (c : ClampSide) => (match c with | .none => 0 | .upper => 1 | .lower => 2 : Word)
      (runtimeWords s).length = 232 ∧
      (∀ i, i < 24 → s.objectWord 3 i =
        [(match s.timer.link with | .idle => 0 | .up => 1 | .lost => 2),
          (match s.timer.deadline with | some d => num (d - s.clock) | none => 0),
          s.timer.cycleCount, flag s.reaction.restart, flag s.faultLine, flag s.reaction.estopCause,
          flag s.images.setupLine, (match s.history.state with | .recording => 0 | .postTrigger => 1 | .frozen => 2),
          num s.history.ring.length, num s.history.remainder, num s.images.liveLower, num s.images.liveUpper,
          flag s.images.transfer.isOpen, num s.images.transfer.first, num s.images.transfer.last,
          int s.images.transfer.current, num s.images.transfer.ignored,
          (match s.images.commit.state with | .none => 0 | .checking => 1 | .ready => 2),
          flag s.images.writing.isSome, flag s.images.calibrationValid, num s.service.queue.length,
          flag s.service.overrun, s.service.lastRefusedTag.setWidth 32, num s.images.pendingLive.length].getD i 0) ∧
      (∀ (g : Chan) (i : Nat), i < 12 → s.objectWord 3 (24 + 12 * g.val + i) =
        let c := s.coupling.get g
        let u := s.groupRef.get g
        [(match c.state with | .detached => 0 | .engaging => 1 | .coupled => 2 | .releasing => 3 | .suspended => 4),
          (match s.reaction.levels.get g with | .none => 0 | .note => 1 | .degrade => 2 | .hold => 3 | .safe => 4),
          num c.step, flag c.suspend, num u.includedCount, num u.contributingCount, flag u.present, int u.x,
          int u.uRef, flag u.groupLost, 0, 0].getD i 0) ∧
      ∀ (r : Chan) (i : Nat), i < 40 → s.objectWord 3 (72 + 40 * r.val + i) =
        let a := s.acq.get r
        let u := s.rollerRef.get r
        let q := s.torque.get r
        let c := s.composer.get r
        let m := s.monitor.get r
        [flag a.seeded, a.cLast, num a.k, int a.v, num a.staleCount,
          flag a.status.ready + 2 * flag a.status.fault + 4 * flag a.status.positionValid, flag a.staleFlag,
          flag a.feedbackStale, flag a.driveFault, flag (s.reaction.exclusions.get r), flag u.excluded, flag u.included,
          int u.ratio, int u.u, int u.t, int u.e, int q.a, int q.qOut, num q.qeff, side q.authSide, side q.rangeSide,
          (match c.phase with | .off => 0 | .ramp => 1 | .atClear => 2 | .return_ => 3), int c.lastWritten,
          int c.rampStart, int c.composed, num c.runCount, flag c.saturation, flag c.enable, flag m.monitored,
          int m.blockSum, num m.blockFill, flag m.latest.isSome, int (m.latest.getD 0), num m.persistence,
          flag m.syncWarn, flag m.syncFault, flag m.positionFault,
          (match s.active.groupOf r with
            | some g =>
              if s.active.group g 8 = 0 then 1 else if s.active.group g 8 = 1 then 4
              else if s.active.group g 8 = 2 then 16 else 0
            | none => 0), 0, 0].getD i 0) ∧
    (∀ i f, s.reaction.faults[i]? = some f →
      s.objectWord 4 (8 * i) = BitVec.ofNat 32 f.kind.code ∧ s.objectWord 4 (8 * i + 1) = BitVec.ofNat 32 f.scope.val ∧
      s.objectWord 4 (8 * i + 2) = f.first ∧ s.objectWord 4 (8 * i + 3) = f.last ∧
      s.objectWord 4 (8 * i + 4) = BitVec.ofNat 32 f.count ∧
      s.objectWord 4 (8 * i + 5) = (if f.causePresent then 1 else 0) ∧
      s.objectWord 4 (8 * i + 6) = 0 ∧ s.objectWord 4 (8 * i + 7) = 0) ∧
    (∀ i, 8 * s.reaction.faults.length ≤ i → s.objectWord 4 i = 0) ∧
    (s.objectWord 5 0 = BitVec.ofNat 32 s.cellPort.demandErrors ∧
      s.objectWord 5 1 = BitVec.ofNat 32 s.drivePort.feedbackErrors ∧
      (∀ r : Chan, s.objectWord 5 (2 + r.val) = BitVec.ofNat 32 (s.acq.get r).lateCount) ∧
      s.objectWord 5 6 = BitVec.ofNat 32 s.timer.resyncDrops ∧ s.objectWord 5 7 = BitVec.ofNat 32 s.service.overruns) ∧
    (∀ n w c, w < 32 → s.history.ring[n]? = some c → s.objectWord 6 (32 * n + w) = c.words.getD w 0) ∧
    ∀ i, 32 * s.history.ring.length ≤ i → s.objectWord 6 i = 0

/-- DESCRIBE returns words of the 12-word description or REFUSED_RANGE (R170); a request of an unknown kind is answered
UNKNOWN_KIND with every data word 0 (R162). -/
def Obligations.DescribeAndUnknownKindAnswered : Prop :=
  (∀ (area : RequestArea) (s : State), s.takesAtOnce →
    let count := area.count.toNat
    let description : List Word :=
      [65538, 2404, 1, 131074, if s.images.calibrationValid then 1 else 0,
        if s.images.calibrationValid then s.calibration.count else 0, 196609, 254, 262145, 4, 327681, 64]
    ∃ p, exec (.describe area) s = .next (s.answered ⟨11, area⟩ p) ∧
      p.kind = 11 ∧ p.tag = area.tag ∧ p.index = area.index ∧ p.count = area.count ∧ p.data.length = 8 ∧
      (1 ≤ count ∧ count ≤ 8 ∧ area.index.toNat + count - 1 ≤ 11 →
        p.outcome = .done ∧ ∀ j, j < 8 → p.data.getD j 0 =
          if j < count then description.getD (area.index.toNat + j) 0 else 0) ∧
      (¬ (1 ≤ count ∧ count ≤ 8 ∧ area.index.toNat + count - 1 ≤ 11) →
        p.outcome = .refusedRange ∧ ∀ j, p.data.getD j 0 = 0)) ∧
  ∀ (kind : Byte) (area : RequestArea) (s : State), s.takesAtOnce → isUnknownKind kind = true →
    exec (.unknownKind kind area) s =
      .next (s.answered ⟨kind, area⟩
        ⟨kind, area.tag, .unknownKind, area.index, area.count, [0, 0, 0, 0, 0, 0, 0, 0]⟩)

/-! ### Transfers, commit, live writes, calibration -/

/-- OPEN_TRANSFER by its tests in order (R150) and CLOSE_TRANSFER (R152).
That a refused OPEN_TRANSFER carries the two data words as well is inferred (log entry 14). -/
def Obligations.TransferOpensAndCloses : Prop :=
  (∀ (area : RequestArea) (s : State), s.takesAtOnce →
    let q : Request := ⟨2, area⟩
    let first := area.index.toNat
    let last := (area.data.getD 0 0).toNat
    let t := s.images.transfer
    let refused := fun (o : Result) => exec (.openTransfer area) s =
      .next (s.answered q ⟨2, area.tag, o, area.index, area.count,
        [BitVec.ofInt 32 t.current, BitVec.ofNat 32 t.ignored, 0, 0, 0, 0, 0, 0]⟩)
    let protectedRun := (∃ i, first ≤ i ∧ i ≤ last ∧ i < 254 ∧ isMaintenance i = true) ∧ s.images.setupLine = false
    (last < first ∨ 253 < last → refused .refusedRange) ∧
    (first ≤ last → last ≤ 253 → t.isOpen = true → refused .refusedBusy) ∧
    (first ≤ last → last ≤ 253 → t.isOpen = false → protectedRun → refused .refusedProtected) ∧
    (first ≤ last → last ≤ 253 → t.isOpen = false → ¬ protectedRun →
      exec (.openTransfer area) s =
        .next ((s.withImages { s.images with transfer := ⟨true, first, last, (first : Int) - 1, 0⟩ }).answered q
          ⟨2, area.tag, .done, area.index, area.count,
            [BitVec.ofInt 32 ((first : Int) - 1), 0, 0, 0, 0, 0, 0, 0]⟩))) ∧
  ∀ (area : RequestArea) (s : State), s.takesAtOnce →
    (s.images.transfer.isOpen = true →
      exec (.closeTransfer area) s =
        .next ((s.withImages { s.images with transfer := { s.images.transfer with isOpen := false } }).answered
          ⟨4, area⟩ ⟨4, area.tag, .done, area.index, area.count,
            [BitVec.ofInt 32 s.images.transfer.current, BitVec.ofNat 32 s.images.transfer.ignored, 0, 0, 0, 0, 0, 0]⟩)) ∧
    (s.images.transfer.isOpen = false →
      exec (.closeTransfer area) s =
        .next (s.answered ⟨4, area⟩
          ⟨4, area.tag, .refusedState, area.index, area.count, [0, 0, 0, 0, 0, 0, 0, 0]⟩))

/-- TRANSFER_DATA by its tests in order: a refusal writes nothing, one for protection closes the context, and otherwise the
values land on Staging from the next index on, the rest are ignored, and the run's end closes the context (R151).
That every refusal carries the three data words is inferred (log entry 14). -/
def Obligations.TransferDataWritesStaging : Prop :=
  ∀ (area : RequestArea) (s : State), s.takesAtOnce → s.transferOk →
    let n := area.count.toNat
    let t := s.images.transfer
    let landing := min n ((t.last : Int) - t.current).toNat
    let onMaintenance := ∃ i : Nat, t.current < (i : Int) ∧ (i : Int) ≤ t.current + landing ∧ isMaintenance i = true
    ∃ o images, exec (.transferData area) s =
        .next ((s.withImages images).answered ⟨3, area⟩ ⟨3, area.tag, o, area.index, area.count,
          [BitVec.ofInt 32 images.transfer.current, BitVec.ofNat 32 images.transfer.ignored,
            if images.transfer.isOpen then 1 else 0, 0, 0, 0, 0, 0]⟩) ∧
      (t.isOpen = false → o = .refusedState ∧ images = s.images) ∧
      (t.isOpen = true → n < 1 ∨ 8 < n → o = .refusedRange ∧ images = s.images) ∧
      (t.isOpen = true → 1 ≤ n → n ≤ 8 → onMaintenance → s.images.setupLine = false →
        o = .refusedProtected ∧ images = { s.images with transfer := { t with isOpen := false } }) ∧
      (t.isOpen = true → 1 ≤ n → n ≤ 8 → ¬ (onMaintenance ∧ s.images.setupLine = false) →
        o = .done ∧
        images.transfer = ⟨decide (t.current + landing ≠ t.last), t.first, t.last, t.current + landing,
          t.ignored + (n - landing)⟩ ∧
        images = { s.images with staging := images.staging, transfer := images.transfer } ∧
        ∀ i : Nat, i < 254 → images.staging.field i =
          if t.current < (i : Int) ∧ (i : Int) ≤ t.current + landing
          then area.data.getD ((i : Int) - t.current - 1).toNat 0 else s.images.staging.field i)

/-- COMMIT by its tests in order: refused at once and changing nothing, or accepted into CHECKING with the expected check word
and no answer yet (R153). The check's end: a wrong CRC, the lowest failing index, or READY (R154). The 37 maintenance fields
are those of R145, and a field fails exactly when a check of R147 attributed to it fails.
The end of no check is the model's (log entry 4). -/
def Obligations.CommitJudgedAndChecked : Prop :=
  (∀ i, isMaintenance i = true ↔
    i = 0 ∨ (2 ≤ i ∧ i ≤ 5) ∨ ∃ (r : Chan) (o : Nat), ((4 ≤ o ∧ o ≤ 10) ∨ o = 13) ∧ i = 10 + 15 * r.val + o) ∧
  (∀ (img : Image) (i : Nat), i < 254 → (fieldFails img i = true ↔ img.breaksCheck i)) ∧
  (∀ (area : RequestArea) (s : State), s.takesAtOnce →
    let q : Request := ⟨5, area⟩
    let refused := fun (o : Result) => exec (.commit area) s =
      .next (s.answered q ⟨5, area.tag, o, area.index, area.count, [0, 0, 0, 0, 0, 0, 0, 0]⟩)
    let rest := ∀ g, (s.coupling.get g).state = .detached ∨ (s.coupling.get g).state = .suspended
    let differs := ∃ i, i < 254 ∧ isMaintenance i = true ∧ s.images.staging.field i ≠ s.images.active.field i
    (s.images.transfer.isOpen = true → refused .refusedBusy) ∧
    (s.images.transfer.isOpen = false → ¬ rest → refused .refusedState) ∧
    (s.images.transfer.isOpen = false → rest → differs → s.images.setupLine = false → refused .refusedProtected) ∧
    (s.images.transfer.isOpen = false → rest → ¬ (differs ∧ s.images.setupLine = false) →
      exec (.commit area) s =
        .next ((s.asHead q).withImages { s.images with
          commit := { s.images.commit with state := .checking, expected := area.data.getD 0 0, age := 0 } }))) ∧
  (∀ s : State, s.images.commit.state ≠ .checking → exec .commitCheckEnd s = .next s) ∧
  ∀ (s : State) (q : Request) (rest : List Request), s.alive = true → s.images.commit.state = .checking →
    s.service.queue = q :: rest →
    let crc := crc16 (bytesOfWords s.images.staging.toList)
    let ended := fun (st : CommitState) => s.withImages { s.images with
      commit := { s.images.commit with state := st, computed := crc } }
    (s.images.commit.expected ≠ crc.setWidth 32 →
      exec .commitCheckEnd s =
        .next ((ended .none).withService { s.service with
          progress := some .performed
          ready := some ⟨q.kind, q.area.tag, .refusedCheck, q.area.index, q.area.count,
            [crc.setWidth 32, 0, 0, 0, 0, 0, 0, 0]⟩ })) ∧
    (s.images.commit.expected = crc.setWidth 32 →
      (∀ i, i < 254 → fieldFails s.images.staging i = true → (∀ j, j < i → fieldFails s.images.staging j = false) →
        exec .commitCheckEnd s =
          .next ((ended .none).withService { s.service with
            progress := some .performed
            ready := some ⟨q.kind, q.area.tag, .refusedInvalid, BitVec.ofNat 16 i, q.area.count,
              [crc.setWidth 32, 0, 0, 0, 0, 0, 0, 0]⟩ })) ∧
      ((∀ i, i < 254 → fieldFails s.images.staging i = false) →
        exec .commitCheckEnd s = .next (ended .ready)))

/-- The order of a computation: the work at its start, then speed settling, reference, coupling, composition, monitoring and
history (R133, section 1.4 of the introduction), an event that comes during it being taken between two stages, after those
finished and before the rest, which a reset abandons (R161, R104, R122). At the start the count advances, the pending live
writes are applied in order of acceptance and the list is emptied (R157); then, while the commit is READY, all 254 fields
of Staging are copied into Active and DONE is posted with the CRC and this computation's count (R155); then the next
substitute expiry is set (R136) and the pending exclusions take effect and are cleared (R99, R15, R23). A check still
going on ends before the start of the eighth computation (R154).
The places of events are the model's (log entry 3), and so is the count of computations a check keeps (log entry 20). -/
def Obligations.ComputationAppliesWritesAndCopies : Prop :=
  (∀ (s : State) (start : CycleStart) (point : Nat),
    let old := (s.beginCycle start).replacedImage
    let stages : List (State → State) :=
      [fun u => u.speedSettling old s.drivePort.lastSeq.isSome, fun u => u.referenceStage, fun u => u.couplingStage,
        fun u => u.compositionStage old, fun u => u.monitoringStage, fun u => u.historyStage]
    let run := fun (fs : List (State → State)) (u : State) => fs.foldl (fun v f => f v) u
    s.computeCycle start [] point = run stages (s.startCycle start) ∧
    ∀ (e : MidEvent) (k : Nat), k ≤ 6 → e.point = point + k →
      let before := run (stages.take k) (s.startCycle start)
      let u := (before.withClock (before.clock + e.elapsed)).happens e.event
      (u.timer.computing ≠ none → s.computeCycle start [e] point = run (stages.drop k) u) ∧
      (u.timer.computing = none → s.computeCycle start [e] point = u)) ∧
  (∀ (s : State) (start : CycleStart),
    let w := s.startWork start
    w.timer.cycleCount = s.timer.cycleCount + 1 ∧ w.timer.link = s.timer.link ∧ w.timer.deadline = s.timer.deadline ∧
    (∀ slots, start = .cell slots → w.timer.held = some slots ∧ w.timer.nextExpiry = s.timer.nextExpiry) ∧
    (∀ x, start = .substitute x →
      w.timer.held = s.timer.held ∧ w.timer.nextExpiry = some (x + w.images.active.period)) ∧
    w.reaction = { s.reaction with exclusions := Quad.all false } ∧ w.coupling = s.coupling ∧ w.history = s.history ∧
    ∀ r,
      (s.reaction.exclusions.get r = true →
        w.rollerRef.get r = { s.rollerRef.get r with excluded := true } ∧
        w.acq.get r = { s.acq.get r with staleCount := 0 }) ∧
      (s.reaction.exclusions.get r = false →
        w.rollerRef.get r = s.rollerRef.get r ∧ w.acq.get r = s.acq.get r)) ∧
  (∀ (s : State) (start : CycleStart), (s.computeCycle start [] 0).images = (s.startWork start).images) ∧
  (∀ (s : State) (start : CycleStart),
    let w := s.startWork start
    s.images.commit.state = .none ∨ (s.images.commit.state = .checking ∧ s.images.commit.age + 1 < 8) →
      w.images.staging = s.images.staging ∧ w.images.commit.state = s.images.commit.state ∧
      (s.images.commit.state = .checking → w.images.commit.age = s.images.commit.age + 1) ∧
      w.images.pendingLive = [] ∧
      ∀ i, i < 254 → w.images.active.field i =
        match (s.images.pendingLive.filter fun p => p.index == i).getLast? with
        | some p => p.value
        | none => s.images.active.field i) ∧
  (∀ (s : State) (start : CycleStart), s.alive = true → s.images.commit.state = .checking →
    8 ≤ s.images.commit.age + 1 →
    ∃ u, exec .commitCheckEnd (s.withImages { s.images with
        commit := { s.images.commit with age := s.images.commit.age + 1 } }) = .next u ∧
      u.images.commit.state ≠ .checking ∧
      ∀ (during : List MidEvent) (point : Nat), s.computeCycle start during point = u.computeCycle start during point) ∧
  ∀ (s : State) (start : CycleStart) (q : Request) (rest : List Request),
    s.images.commit.state = .ready → s.service.queue = q :: rest → q.code = 5 →
    let t := s.computeCycle start [] 0
    t.images.active = s.images.staging ∧ t.images.staging = s.images.staging ∧ t.images.commit.state = .none ∧
    t.images.pendingLive = [] ∧ t.images.liveLower = s.images.liveLower ∧
    t.images.liveUpper = s.images.liveUpper ∧ t.service.queue = s.service.queue ∧
    t.service.progress = some .performed ∧
    t.service.ready = some ⟨q.kind, q.area.tag, .done, q.area.index, q.area.count,
      [s.images.commit.computed.setWidth 32, s.timer.cycleCount + 1, 0, 0, 0, 0, 0, 0]⟩

/-- SET_LIVE_WINDOW by its tests in order (R156), and LIVE_WRITE by its own: outside the window, not a live field, an image
that fails, or accepted and appended (R157). The 26 live fields are those of R145. -/
def Obligations.LiveWindowAndLiveWrite : Prop :=
  (∀ i, isLive i = true ↔ i = 8 ∨ i = 9 ∨
    ∃ (g : Chan) (o : Nat), (o = 0 ∨ o = 1 ∨ o = 5 ∨ o = 6 ∨ o = 7 ∨ o = 9) ∧ i = 70 + 10 * g.val + o) ∧
  (∀ (area : RequestArea) (s : State), s.takesAtOnce →
    let lower := area.data.getD 0 0
    let upper := area.data.getD 1 0
    let refused := fun (o : Result) => exec (.setLiveWindow area) s =
      .next (s.answered ⟨7, area⟩ ⟨7, area.tag, o, area.index, area.count, [0, 0, 0, 0, 0, 0, 0, 0]⟩)
    (s.images.setupLine = false → refused .refusedProtected) ∧
    (s.images.setupLine = true → 254 < lower.toNat ∨ 254 < upper.toNat → refused .refusedRange) ∧
    (s.images.setupLine = true → lower.toNat ≤ 254 → upper.toNat ≤ 254 →
      exec (.setLiveWindow area) s =
        .next ((s.withImages { s.images with liveLower := lower.toNat, liveUpper := upper.toNat }).answered ⟨7, area⟩
          ⟨7, area.tag, .done, area.index, area.count, [lower, upper, 0, 0, 0, 0, 0, 0]⟩))) ∧
  ∀ (area : RequestArea) (s : State), s.takesAtOnce →
    let f := area.index.toNat
    let value := area.data.getD 0 0
    let inside := s.images.liveLower < f ∧ f < s.images.liveUpper
    let writes := s.images.pendingLive ++ [⟨f, value⟩]
    let img := applyLive s.images.active writes
    (¬ inside ∨ isLive f = false →
      exec (.liveWrite area) s =
        .next (s.answered ⟨6, area⟩
          ⟨6, area.tag, .refusedProtected, area.index, area.count, [0, 0, 0, 0, 0, 0, 0, 0]⟩)) ∧
    (inside → isLive f = true →
      (∀ i, i < 254 → fieldFails img i = true → (∀ j, j < i → fieldFails img j = false) →
        exec (.liveWrite area) s =
          .next (s.answered ⟨6, area⟩
            ⟨6, area.tag, .refusedInvalid, BitVec.ofNat 16 i, area.count, [0, 0, 0, 0, 0, 0, 0, 0]⟩)) ∧
      ((∀ i, i < 254 → fieldFails img i = false) →
        exec (.liveWrite area) s =
          .next ((s.withImages { s.images with pendingLive := writes }).answered ⟨6, area⟩
            ⟨6, area.tag, .done, area.index, area.count, [value, 0, 0, 0, 0, 0, 0, 0]⟩)))

/-- STORE_CALIBRATION by its tests in order, an accepted one taking Active's 37 maintenance fields and the next count with no
answer yet (R158); the end of the write leaves the values, the count and their check word in the store (R159). The count
after the last value of its range is free (log entry 8), and that the end of no write changes nothing is the model's (log
entry 4). -/
def Obligations.CalibrationStoreWritten : Prop :=
  (∀ (area : RequestArea) (s : State), s.takesAtOnce →
    let q : Request := ⟨9, area⟩
    let refused := fun (o : Result) => exec (.storeCalibration area) s =
      .next (s.answered q ⟨9, area.tag, o, area.index, area.count, [0, 0, 0, 0, 0, 0, 0, 0]⟩)
    let rest := ∀ g, (s.coupling.get g).state = .detached ∨ (s.coupling.get g).state = .suspended
    (¬ rest → refused .refusedState) ∧
    (rest → s.images.setupLine = false → refused .refusedProtected) ∧
    (rest → s.images.setupLine = true →
      ∃ n d, exec (.storeCalibration area) s =
          .next (((s.asHead q).withImages { s.images with
            writing := some ⟨maintenanceFields.map s.images.active.field, n⟩, calibrationValid := false }).withDraws d) ∧
        (s.images.calibrationValid = false → n = 1) ∧
        (s.images.calibrationValid = true → s.calibration.count ≠ 0xFFFFFFFF → n = s.calibration.count + 1) ∧
        (s.images.calibrationValid = false ∨ s.calibration.count ≠ 0xFFFFFFFF → d = s.draws))) ∧
  (∀ s : State, s.images.writing = none → exec .calibrationWriteEnd s = .next s) ∧
  ∀ (s : State) (w : CalibrationWrite) (q : Request) (rest : List Request), s.alive = true →
    s.images.writing = some w → s.service.queue = q :: rest →
    let check := crc16 (bytesOfWords (w.fields ++ [w.count]))
    exec .calibrationWriteEnd s =
      .next (((s.withCalibration ⟨w.fields, w.count, check⟩).withImages
        { s.images with writing := none, calibrationValid := true }).withService
        { s.service with
          progress := some .performed
          ready := some ⟨q.kind, q.area.tag, .done, q.area.index, q.area.count,
            [w.count, check.setWidth 32, 0, 0, 0, 0, 0, 0]⟩ })

/-! ### The Service queue -/

/-- A request behind others is appended and clears the Overrun flag; with 4 held it is refused, flagged, named by its tag and
counted; nothing else changes (R160). The same of a request that a Demand brings (R123). A group function comes in a good
Demand with destination PART whose GROUP_CONTROL names that function alone (R117, R167). While the unit takes no requests
nothing happens but the time (R122, R160).
A request as a command of its own is the hand-over alone (log entry 5), the Demand of a group function is the model's
reading of its row (log entry 6), and what a command does without power is the model's (log entry 4). -/
def Obligations.RequestsQueueOrOverrun : Prop :=
  (∀ (kind : Byte) (area : RequestArea) (s : State), s.alive = true →
    (s.service.queue ≠ [] → s.service.queue.length < 4 →
      exec (requestCommand kind area) s =
        .next (s.withService { s.service with queue := s.service.queue ++ [⟨kind, area⟩], overrun := false })) ∧
    (4 ≤ s.service.queue.length →
      exec (requestCommand kind area) s =
        .next (s.withService { s.service with
          overrun := true, lastRefusedTag := area.tag, overruns := min 65535 (s.service.overruns + 1) }))) ∧
  (∀ (s : State) (elapsed latency : Nat) (bytes : List Byte), s.processes (s.clock + elapsed) →
    goodDemand bytes = true → destinationOf bytes = 1 →
    ∃ t, exec (.demandReception elapsed ⟨latency, []⟩ bytes) s = .next t ∧
      (s.service.queue.length < 4 →
        t.service.queue = s.service.queue ++ [requestOf bytes] ∧ t.service.overrun = false ∧
        t.service.lastRefusedTag = s.service.lastRefusedTag ∧ t.service.overruns = s.service.overruns) ∧
      (4 ≤ s.service.queue.length →
        t.service.queue = s.service.queue ∧ t.service.overrun = true ∧
        t.service.lastRefusedTag = (requestOf bytes).area.tag ∧
        t.service.overruns = min 65535 (s.service.overruns + 1))) ∧
  (∀ (f : GroupFunction) (c : Carrier) (s : State),
    exec (functionCommand f c) s = exec (.demandReception c.elapsed c.course (functionDemand f c)) s) ∧
  (∀ (f : GroupFunction) (c : Carrier), c.slots.length = 12 →
    let b := functionDemand f c
    goodDemand b = true ∧ sequenceOf b = c.sequence ∧ (b.drop 4).take 12 = c.slots ∧ destinationOf b = 1 ∧
    requestOf b = ⟨8, ⟨c.tag, 0, 0, 0, [BitVec.twoPow 32 f.bit, 0, 0, 0, 0, 0, 0, 0]⟩⟩) ∧
  ∀ (kind : Byte) (area : RequestArea) (f : GroupFunction) (c : Carrier) (s : State), s.alive = false →
    exec (requestCommand kind area) s = .next s ∧
    exec (functionCommand f c) s = .next (s.withClock (s.clock + c.elapsed))

/-- RESTART at the head is refused while a group is coupling and otherwise DONE with no other effect yet (R169). GROUP_CONTROL is
refused at once for a bit above 15 and otherwise waits (R163, R167).
Taken as the head it waits, which is all a GROUP_CONTROL does when it is handed over; what it does at its computation is
GroupSetsJudgedTogether. -/
def Obligations.RestartAndGroupControlAtHead : Prop :=
  (∀ (area : RequestArea) (s : State), s.takesAtOnce →
    exec (.restart area) s =
      .next (s.answered ⟨10, area⟩ ⟨10, area.tag,
        if ∀ g, (s.coupling.get g).state = .detached ∨ (s.coupling.get g).state = .suspended then .done
        else .refusedState,
        area.index, area.count, [0, 0, 0, 0, 0, 0, 0, 0]⟩)) ∧
  ∀ (area : RequestArea) (s : State), s.takesAtOnce →
    ((∃ i, 16 ≤ i ∧ (area.data.getD 0 0).getLsbD i = true) →
      exec (.groupControl area) s =
        .next (s.answered ⟨8, area⟩
          ⟨8, area.tag, .refusedRange, area.index, area.count, [0, 0, 0, 0, 0, 0, 0, 0]⟩)) ∧
    ((∀ i, 16 ≤ i → (area.data.getD 0 0).getLsbD i = false) →
      exec (.groupControl area) s = .next (s.asHead ⟨8, area⟩))

/-! ### Group functions -/

/-- Every function of a GROUP_CONTROL appears in exactly one of the sets performed and rejected, each judged against the state
before any of them, and the outcome follows from the sets (R53, R167, R168). The functions that pass are performed together:
ENGAGE and RELEASE (R54, R56), one recomputation of the levels after all removals (R100 to R102), the detachments (R59),
REARM before CAPTURE (R111, R113) and CLEAR_RESTART (R103). At a computation a waiting GROUP_CONTROL is so judged and
performed in the state that the start-of-computation work has left, and answered with that computation's count.
An ENGAGE that a RELEASE conflicts with is rejected, and the marks are cleared all the same where its first four conditions
hold (R53, R54).
That the counts taken anew stay in the group's record is inferred (log entry 22). -/
def Obligations.GroupSetsJudgedTogether : Prop :=
  (∀ (s : State) (q : Request),
    let w := q.dataWord 0
    let p := s.setResponse q
    let performed := p.data.getD 0 0
    let rejected := p.data.getD 1 0
    let may := fun (g : Chan) => (s.coupling.get g).state = .detached ∧ s.reaction.restart = false ∧
      (s.reaction.levels.get g).code ≤ 1 ∧ s.timer.link = .up
    let has := fun (g : Chan) =>
      2 ≤ (s.active.configuredMembers g).length ∧ 1 ≤ (s.active.weightedMembers g).length
    let passes := fun (f : GroupFunction) => match f with
      | .engage g => may g ∧ has g ∧ inSet w (.release g) = false
      | .release g => (s.coupling.get g).state.couples = true ∧ inSet w (.engage g) = false
      | .capture => s.history.state = .recording
      | _ => True
    let t := s.performSet w
    let cleared := inSet w .clearPart = true ∨ ∃ g, inSet w (.clear g) = true
    let marks := fun (g : Chan) => inSet w (.engage g) = true ∧ may g
    performed &&& rejected = 0 ∧ performed ||| rejected = w &&& 0xFFFF ∧
    (∀ f, inSet performed f = true ↔ inSet w f = true ∧ passes f) ∧
    (rejected = 0 → p.outcome = .done) ∧
    (rejected ≠ 0 → performed ≠ 0 → p.outcome = .partial_) ∧
    (rejected ≠ 0 → performed = 0 → p.outcome = .refusedState) ∧
    p.kind = q.kind ∧ p.tag = q.area.tag ∧ p.index = q.area.index ∧ p.count = q.area.count ∧
    p.data.getD 2 0 = 0 ∧ p.data.getD 3 0 = s.timer.cycleCount ∧
    t = (((((s.withCoupling t.coupling).withGroupRef t.groupRef).withRollerRef t.rollerRef).withTorque
      t.torque).withReaction t.reaction).withHistory t.history ∧
    t.reaction.estopCause = s.reaction.estopCause ∧ t.reaction.exclusions = s.reaction.exclusions ∧
    t.reaction.restart = (if inSet w .clearRestart then false else s.reaction.restart) ∧
    (let h : History := if inSet w .rearm then ⟨[], .recording, 0⟩ else s.history;
      (inSet performed .capture = true → afterTrigger h t.history s.active.postTrigger) ∧
      (inSet performed .capture = false → t.history = h)) ∧
    List.Sublist t.reaction.faults s.reaction.faults ∧
    (∀ e, e ∈ t.reaction.faults ↔ e ∈ s.reaction.faults ∧ ¬ (e.causePresent = false ∧
      ((e.kind.scopeKind = .part ∧ inSet w .clearPart = true) ∨
        (e.kind.scopeKind = .group ∧ inSet w (.clear e.scope) = true) ∨
        (e.kind.scopeKind = .roller ∧ ∃ g, s.active.groupOf e.scope = some g ∧ inSet w (.clear g) = true)))) ∧
    (¬ cleared → t.reaction.levels = s.reaction.levels) ∧
    (cleared → ∀ g,
      (∀ e ∈ t.reaction.faults, appliesTo s.active e.kind e.scope g = true →
        (s.configuredLevel e.kind).code ≤ (t.reaction.levels.get g).code) ∧
      (t.reaction.levels.get g = .none ∨ ∃ e ∈ t.reaction.faults, appliesTo s.active e.kind e.scope g = true ∧
        s.configuredLevel e.kind = t.reaction.levels.get g)) ∧
    (∀ g,
      let c := s.coupling.get g
      let steered : GroupCoupling :=
        if inSet performed (.engage g) then ⟨.engaging, 1, false⟩
        else if inSet performed (.release g) then { c with state := .releasing, suspend := false } else c
      let detaches := inSet w (.clear g) = true ∧ c.state = .suspended ∧ (t.reaction.levels.get g).code ≤ 1
      (detaches → t.coupling.get g = { c with state := .detached }) ∧
      (¬ detaches → afterLevelChange steered (t.coupling.get g) (s.reaction.levels.get g) (t.reaction.levels.get g)) ∧
      (marks g → t.groupRef.get g = { s.groupRef.get g with
        includedCount := if s.active.isCouplingGroup g then (s.active.configuredMembers g).length else 0
        contributingCount := if s.active.isCouplingGroup g then (s.active.weightedMembers g).length else 0 }) ∧
      (¬ marks g → t.groupRef.get g = s.groupRef.get g)) ∧
    ∀ r,
      ((∃ g, s.active.groupOf r = some g ∧ marks g) →
        t.rollerRef.get r = { s.rollerRef.get r with excluded := false }) ∧
      (¬ (∃ g, s.active.groupOf r = some g ∧ marks g) → t.rollerRef.get r = s.rollerRef.get r) ∧
      ((∃ g, s.active.groupOf r = some g ∧ inSet performed (.engage g) = true) →
        t.torque.get r = { s.torque.get r with a := 0, qOut := 0, authSide := .none, rangeSide := .none }) ∧
      (¬ (∃ g, s.active.groupOf r = some g ∧ inSet performed (.engage g) = true) → t.torque.get r = s.torque.get r)) ∧
  ∀ (s : State) (start : CycleStart) (q : Request) (rest : List Request),
    s.service.queue = q :: rest → s.service.progress = some .waiting → q.code = 8 → s.images.commit.state = .none →
    let w := s.startWork start
    w.timer.cycleCount = s.timer.cycleCount + 1 ∧
    s.startCycle start = (w.performSet (q.dataWord 0)).withService
      { s.service with progress := some .performed, ready := some (w.setResponse q) } ∧
    (s.computeCycle start [] 0).service =
      { s.service with progress := some .performed, ready := some (w.setResponse q) }

/-- ENGAGE is performed when the group is DETACHED at NONE or NOTE, the Restart flag is clear, the link is UP and two members
are configured, one with weight: ENGAGING with k = 1, torques 0 and marks cleared. With only the members lacking, the
marks are cleared all the same; otherwise it changes nothing (R54). RELEASE from ENGAGING or COUPLED is performed, from
any other state rejected (R56). Each is judged and performed at the start of the computation of the Demand that brings it,
after the count, the pending live writes and the exclusions (R53, R123), and that computation goes on.
That a command brings its Demand is the model's reading of its row (log entry 6), and the counts taken anew by the engage
test stay in the group's record (log entry 22). -/
def Obligations.EngageAndReleaseJudged : Prop :=
  (∀ (f : GroupFunction) (c : Carrier) (s : State), s.takesFunction c →
    let p := s.atFunctions f c
    p.timer.cycleCount = s.timer.cycleCount + 1 ∧ p.timer.link = .up ∧ p.coupling = s.coupling ∧
    p.history = s.history ∧ p.groupRef = s.groupRef ∧ p.torque = s.torque ∧
    p.images.active = applyLive s.images.active s.images.pendingLive ∧ p.images.pendingLive = [] ∧
    p.reaction = { s.reaction with
      exclusions := Quad.all false
      faults := if s.timer.link = .lost then causeEnded s.reaction.faults .linkLost 0 else s.reaction.faults } ∧
    ∀ r, p.rollerRef.get r =
      { s.rollerRef.get r with excluded := (s.rollerRef.get r).excluded || s.reaction.exclusions.get r }) ∧
  (∀ (g : Chan) (c : Carrier) (s : State), s.takesFunction c →
    let f := GroupFunction.engage g
    let p := s.atFunctions f c
    let bit : Word := BitVec.twoPow 32 g.val
    let may := (p.coupling.get g).state = .detached ∧ p.reaction.restart = false ∧
      (p.reaction.levels.get g).code ≤ 1 ∧ p.timer.link = .up
    let has := 2 ≤ (p.active.configuredMembers g).length ∧ 1 ≤ (p.active.weightedMembers g).length
    let performed : Response := ⟨8, c.tag, .done, 0, 0, [bit, 0, 0, p.timer.cycleCount, 0, 0, 0, 0]⟩
    let rejected : Response := ⟨8, c.tag, .refusedState, 0, 0, [0, bit, 0, p.timer.cycleCount, 0, 0, 0, 0]⟩
    let recount : GroupReference := { p.groupRef.get g with
      includedCount := if p.active.isCouplingGroup g then (p.active.configuredMembers g).length else 0
      contributingCount := if p.active.isCouplingGroup g then (p.active.weightedMembers g).length else 0 }
    let unmarked := Quad.ofFn fun r =>
      if p.active.groupOf r = some g then { p.rollerRef.get r with excluded := false } else p.rollerRef.get r
    (may → has →
      exec (.engage g c) s =
        .next ((((((p.withCoupling (p.coupling.set g ⟨.engaging, 1, false⟩)).withGroupRef
          (p.groupRef.set g recount)).withRollerRef unmarked).withTorque
          (Quad.ofFn fun r => if p.active.groupOf r = some g then
            { p.torque.get r with a := 0, qOut := 0, authSide := .none, rangeSide := .none }
            else p.torque.get r)).answer performed).completes s f c)) ∧
    (may → ¬ has →
      exec (.engage g c) s =
        .next ((((p.withGroupRef (p.groupRef.set g recount)).withRollerRef unmarked).answer rejected).completes
          s f c)) ∧
    (¬ may → exec (.engage g c) s = .next ((p.answer rejected).completes s f c))) ∧
  ∀ (g : Chan) (c : Carrier) (s : State), s.takesFunction c →
    let f := GroupFunction.release g
    let p := s.atFunctions f c
    let bit : Word := BitVec.twoPow 32 (4 + g.val)
    let couples := (p.coupling.get g).state = .engaging ∨ (p.coupling.get g).state = .coupled
    (couples →
      exec (.release g c) s =
        .next (((p.withCoupling (p.coupling.set g
          { p.coupling.get g with state := .releasing, suspend := false })).answer
          ⟨8, c.tag, .done, 0, 0, [bit, 0, 0, p.timer.cycleCount, 0, 0, 0, 0]⟩).completes s f c)) ∧
    (¬ couples →
      exec (.release g c) s =
        .next ((p.answer ⟨8, c.tag, .refusedState, 0, 0, [0, bit, 0, p.timer.cycleCount, 0, 0, 0, 0]⟩).completes
          s f c))

/-- CLEAR removes the group's entries whose cause is absent (R100) and CLEAR_PART the part-wide ones (R101); every level becomes
the greatest configured level of the remaining entries that apply (R102); a SUSPENDED group is detached by its own CLEAR
at NONE or NOTE (R59). Both act at the start of the computation of the Demand that brings them (R53).
That a command brings its Demand is the model's reading of its row (log entry 6). -/
def Obligations.ClearsRemoveAndRecompute : Prop :=
  ∀ (s : State) (c : Carrier) (f : GroupFunction) (own : Option Chan) (bit : Word), s.takesFunction c →
    ((∃ g, f = .clear g ∧ own = some g ∧ bit = BitVec.twoPow 32 (8 + g.val)) ∨
      (f = .clearPart ∧ own = none ∧ bit = 4096)) →
    let p := s.atFunctions f c
    ∃ r d, exec (functionCommand f c) s =
        .next ((((p.withReaction r).withCoupling d).answer
          ⟨8, c.tag, .done, 0, 0, [bit, 0, 0, p.timer.cycleCount, 0, 0, 0, 0]⟩).completes s f c) ∧
      r.restart = p.reaction.restart ∧ r.estopCause = p.reaction.estopCause ∧
      r.exclusions = p.reaction.exclusions ∧
      (∀ e, e ∈ r.faults ↔ e ∈ p.reaction.faults ∧ ¬ (e.causePresent = false ∧
        ((own = none ∧ e.kind.scopeKind = .part) ∨ (own = some e.scope ∧ e.kind.scopeKind = .group) ∨
          (e.kind.scopeKind = .roller ∧ own ≠ none ∧ p.active.groupOf e.scope = own)))) ∧
      List.Sublist r.faults p.reaction.faults ∧
      (∀ g, (∀ e ∈ r.faults, appliesTo p.active e.kind e.scope g = true →
          (p.configuredLevel e.kind).code ≤ (r.levels.get g).code) ∧
        (r.levels.get g = .none ∨ ∃ e ∈ r.faults, appliesTo p.active e.kind e.scope g = true ∧
          p.configuredLevel e.kind = r.levels.get g)) ∧
      ∀ g, (own = some g ∧ (p.coupling.get g).state = .suspended ∧ (r.levels.get g).code ≤ 1 →
          d.get g = { p.coupling.get g with state := .detached }) ∧
        (¬ (own = some g ∧ (p.coupling.get g).state = .suspended ∧ (r.levels.get g).code ≤ 1) →
          afterLevelChange (p.coupling.get g) (d.get g) (p.reaction.levels.get g) (r.levels.get g))

/-- CAPTURE triggers a RECORDING buffer and is rejected otherwise (R111); REARM empties the ring and records again (R113);
CLEAR_RESTART clears the Restart flag (R103). Each acts at the start of the computation of the Demand that brings it, whose
history stage then adds its record (R53, R109).
That a command brings its Demand is the model's reading of its row (log entry 6). -/
def Obligations.HistoryAndRestartFunctions : Prop :=
  ∀ (s : State) (c : Carrier), s.takesFunction c →
    let judged := fun (f : GroupFunction) => s.atFunctions f c
    let ends := fun (f : GroupFunction) (u : State) =>
      exec (functionCommand f c) s = .next ((u.answer
        ⟨8, c.tag, .done, 0, 0, [BitVec.twoPow 32 f.bit, 0, 0, s.timer.cycleCount + 1, 0, 0, 0, 0]⟩).completes s f c)
    (s.history.state = .recording → ∃ h, afterTrigger s.history h (judged .capture).active.postTrigger ∧
      ends .capture ((judged .capture).withHistory h)) ∧
    (s.history.state ≠ .recording →
      exec (.capture c) s = .next (((judged .capture).answer
        ⟨8, c.tag, .refusedState, 0, 0, [0, 8192, 0, s.timer.cycleCount + 1, 0, 0, 0, 0]⟩).completes s .capture c)) ∧
    ends .rearm ((judged .rearm).withHistory ⟨[], .recording, 0⟩) ∧
    ends .clearRestart ((judged .clearRestart).withReaction { (judged .clearRestart).reaction with restart := false })

end
end

