-- ==== Sys2Proof/Laws/State.lean ====
section
/-! SUPPORT. One lemma per field per update of State, each true by rfl, so that no proof unfolds a record update. -/

namespace Sys2Proof.Machine

@[simp] theorem State.withPowered_powered (s : State) (x : Bool) : (s.withPowered x).powered = x := rfl
@[simp] theorem State.withPowered_resetHeld (s : State) (x : Bool) : (s.withPowered x).resetHeld = s.resetHeld := rfl
@[simp] theorem State.withPowered_estopInput (s : State) (x : Bool) : (s.withPowered x).estopInput = s.estopInput := rfl
@[simp] theorem State.withPowered_setupInput (s : State) (x : Bool) : (s.withPowered x).setupInput = s.setupInput := rfl
@[simp] theorem State.withPowered_clock (s : State) (x : Bool) : (s.withPowered x).clock = s.clock := rfl
@[simp] theorem State.withPowered_acq (s : State) (x : Bool) : (s.withPowered x).acq = s.acq := rfl
@[simp] theorem State.withPowered_window (s : State) (x : Bool) : (s.withPowered x).window = s.window := rfl
@[simp] theorem State.withPowered_groupRef (s : State) (x : Bool) : (s.withPowered x).groupRef = s.groupRef := rfl
@[simp] theorem State.withPowered_rollerRef (s : State) (x : Bool) : (s.withPowered x).rollerRef = s.rollerRef := rfl
@[simp] theorem State.withPowered_coupling (s : State) (x : Bool) : (s.withPowered x).coupling = s.coupling := rfl
@[simp] theorem State.withPowered_torque (s : State) (x : Bool) : (s.withPowered x).torque = s.torque := rfl
@[simp] theorem State.withPowered_composer (s : State) (x : Bool) : (s.withPowered x).composer = s.composer := rfl
@[simp] theorem State.withPowered_monitor (s : State) (x : Bool) : (s.withPowered x).monitor = s.monitor := rfl
@[simp] theorem State.withPowered_reaction (s : State) (x : Bool) : (s.withPowered x).reaction = s.reaction := rfl
@[simp] theorem State.withPowered_history (s : State) (x : Bool) : (s.withPowered x).history = s.history := rfl
@[simp] theorem State.withPowered_cellPort (s : State) (x : Bool) : (s.withPowered x).cellPort = s.cellPort := rfl
@[simp] theorem State.withPowered_drivePort (s : State) (x : Bool) : (s.withPowered x).drivePort = s.drivePort := rfl
@[simp] theorem State.withPowered_timer (s : State) (x : Bool) : (s.withPowered x).timer = s.timer := rfl
@[simp] theorem State.withPowered_images (s : State) (x : Bool) : (s.withPowered x).images = s.images := rfl
@[simp] theorem State.withPowered_calibration (s : State) (x : Bool) : (s.withPowered x).calibration = s.calibration := rfl
@[simp] theorem State.withPowered_service (s : State) (x : Bool) : (s.withPowered x).service = s.service := rfl
@[simp] theorem State.withPowered_draws (s : State) (x : Bool) : (s.withPowered x).draws = s.draws := rfl
@[simp] theorem State.withPowered_pending (s : State) (x : Bool) : (s.withPowered x).pending = s.pending := rfl

@[simp] theorem State.withResetHeld_powered (s : State) (x : Bool) : (s.withResetHeld x).powered = s.powered := rfl
@[simp] theorem State.withResetHeld_resetHeld (s : State) (x : Bool) : (s.withResetHeld x).resetHeld = x := rfl
@[simp] theorem State.withResetHeld_estopInput (s : State) (x : Bool) : (s.withResetHeld x).estopInput = s.estopInput := rfl
@[simp] theorem State.withResetHeld_setupInput (s : State) (x : Bool) : (s.withResetHeld x).setupInput = s.setupInput := rfl
@[simp] theorem State.withResetHeld_clock (s : State) (x : Bool) : (s.withResetHeld x).clock = s.clock := rfl
@[simp] theorem State.withResetHeld_acq (s : State) (x : Bool) : (s.withResetHeld x).acq = s.acq := rfl
@[simp] theorem State.withResetHeld_window (s : State) (x : Bool) : (s.withResetHeld x).window = s.window := rfl
@[simp] theorem State.withResetHeld_groupRef (s : State) (x : Bool) : (s.withResetHeld x).groupRef = s.groupRef := rfl
@[simp] theorem State.withResetHeld_rollerRef (s : State) (x : Bool) : (s.withResetHeld x).rollerRef = s.rollerRef := rfl
@[simp] theorem State.withResetHeld_coupling (s : State) (x : Bool) : (s.withResetHeld x).coupling = s.coupling := rfl
@[simp] theorem State.withResetHeld_torque (s : State) (x : Bool) : (s.withResetHeld x).torque = s.torque := rfl
@[simp] theorem State.withResetHeld_composer (s : State) (x : Bool) : (s.withResetHeld x).composer = s.composer := rfl
@[simp] theorem State.withResetHeld_monitor (s : State) (x : Bool) : (s.withResetHeld x).monitor = s.monitor := rfl
@[simp] theorem State.withResetHeld_reaction (s : State) (x : Bool) : (s.withResetHeld x).reaction = s.reaction := rfl
@[simp] theorem State.withResetHeld_history (s : State) (x : Bool) : (s.withResetHeld x).history = s.history := rfl
@[simp] theorem State.withResetHeld_cellPort (s : State) (x : Bool) : (s.withResetHeld x).cellPort = s.cellPort := rfl
@[simp] theorem State.withResetHeld_drivePort (s : State) (x : Bool) : (s.withResetHeld x).drivePort = s.drivePort := rfl
@[simp] theorem State.withResetHeld_timer (s : State) (x : Bool) : (s.withResetHeld x).timer = s.timer := rfl
@[simp] theorem State.withResetHeld_images (s : State) (x : Bool) : (s.withResetHeld x).images = s.images := rfl
@[simp] theorem State.withResetHeld_calibration (s : State) (x : Bool) : (s.withResetHeld x).calibration = s.calibration := rfl
@[simp] theorem State.withResetHeld_service (s : State) (x : Bool) : (s.withResetHeld x).service = s.service := rfl
@[simp] theorem State.withResetHeld_draws (s : State) (x : Bool) : (s.withResetHeld x).draws = s.draws := rfl
@[simp] theorem State.withResetHeld_pending (s : State) (x : Bool) : (s.withResetHeld x).pending = s.pending := rfl

@[simp] theorem State.withEstopInput_powered (s : State) (x : Bool) : (s.withEstopInput x).powered = s.powered := rfl
@[simp] theorem State.withEstopInput_resetHeld (s : State) (x : Bool) : (s.withEstopInput x).resetHeld = s.resetHeld := rfl
@[simp] theorem State.withEstopInput_estopInput (s : State) (x : Bool) : (s.withEstopInput x).estopInput = x := rfl
@[simp] theorem State.withEstopInput_setupInput (s : State) (x : Bool) : (s.withEstopInput x).setupInput = s.setupInput := rfl
@[simp] theorem State.withEstopInput_clock (s : State) (x : Bool) : (s.withEstopInput x).clock = s.clock := rfl
@[simp] theorem State.withEstopInput_acq (s : State) (x : Bool) : (s.withEstopInput x).acq = s.acq := rfl
@[simp] theorem State.withEstopInput_window (s : State) (x : Bool) : (s.withEstopInput x).window = s.window := rfl
@[simp] theorem State.withEstopInput_groupRef (s : State) (x : Bool) : (s.withEstopInput x).groupRef = s.groupRef := rfl
@[simp] theorem State.withEstopInput_rollerRef (s : State) (x : Bool) : (s.withEstopInput x).rollerRef = s.rollerRef := rfl
@[simp] theorem State.withEstopInput_coupling (s : State) (x : Bool) : (s.withEstopInput x).coupling = s.coupling := rfl
@[simp] theorem State.withEstopInput_torque (s : State) (x : Bool) : (s.withEstopInput x).torque = s.torque := rfl
@[simp] theorem State.withEstopInput_composer (s : State) (x : Bool) : (s.withEstopInput x).composer = s.composer := rfl
@[simp] theorem State.withEstopInput_monitor (s : State) (x : Bool) : (s.withEstopInput x).monitor = s.monitor := rfl
@[simp] theorem State.withEstopInput_reaction (s : State) (x : Bool) : (s.withEstopInput x).reaction = s.reaction := rfl
@[simp] theorem State.withEstopInput_history (s : State) (x : Bool) : (s.withEstopInput x).history = s.history := rfl
@[simp] theorem State.withEstopInput_cellPort (s : State) (x : Bool) : (s.withEstopInput x).cellPort = s.cellPort := rfl
@[simp] theorem State.withEstopInput_drivePort (s : State) (x : Bool) : (s.withEstopInput x).drivePort = s.drivePort := rfl
@[simp] theorem State.withEstopInput_timer (s : State) (x : Bool) : (s.withEstopInput x).timer = s.timer := rfl
@[simp] theorem State.withEstopInput_images (s : State) (x : Bool) : (s.withEstopInput x).images = s.images := rfl
@[simp] theorem State.withEstopInput_calibration (s : State) (x : Bool) : (s.withEstopInput x).calibration = s.calibration := rfl
@[simp] theorem State.withEstopInput_service (s : State) (x : Bool) : (s.withEstopInput x).service = s.service := rfl
@[simp] theorem State.withEstopInput_draws (s : State) (x : Bool) : (s.withEstopInput x).draws = s.draws := rfl
@[simp] theorem State.withEstopInput_pending (s : State) (x : Bool) : (s.withEstopInput x).pending = s.pending := rfl

@[simp] theorem State.withSetupInput_powered (s : State) (x : Bool) : (s.withSetupInput x).powered = s.powered := rfl
@[simp] theorem State.withSetupInput_resetHeld (s : State) (x : Bool) : (s.withSetupInput x).resetHeld = s.resetHeld := rfl
@[simp] theorem State.withSetupInput_estopInput (s : State) (x : Bool) : (s.withSetupInput x).estopInput = s.estopInput := rfl
@[simp] theorem State.withSetupInput_setupInput (s : State) (x : Bool) : (s.withSetupInput x).setupInput = x := rfl
@[simp] theorem State.withSetupInput_clock (s : State) (x : Bool) : (s.withSetupInput x).clock = s.clock := rfl
@[simp] theorem State.withSetupInput_acq (s : State) (x : Bool) : (s.withSetupInput x).acq = s.acq := rfl
@[simp] theorem State.withSetupInput_window (s : State) (x : Bool) : (s.withSetupInput x).window = s.window := rfl
@[simp] theorem State.withSetupInput_groupRef (s : State) (x : Bool) : (s.withSetupInput x).groupRef = s.groupRef := rfl
@[simp] theorem State.withSetupInput_rollerRef (s : State) (x : Bool) : (s.withSetupInput x).rollerRef = s.rollerRef := rfl
@[simp] theorem State.withSetupInput_coupling (s : State) (x : Bool) : (s.withSetupInput x).coupling = s.coupling := rfl
@[simp] theorem State.withSetupInput_torque (s : State) (x : Bool) : (s.withSetupInput x).torque = s.torque := rfl
@[simp] theorem State.withSetupInput_composer (s : State) (x : Bool) : (s.withSetupInput x).composer = s.composer := rfl
@[simp] theorem State.withSetupInput_monitor (s : State) (x : Bool) : (s.withSetupInput x).monitor = s.monitor := rfl
@[simp] theorem State.withSetupInput_reaction (s : State) (x : Bool) : (s.withSetupInput x).reaction = s.reaction := rfl
@[simp] theorem State.withSetupInput_history (s : State) (x : Bool) : (s.withSetupInput x).history = s.history := rfl
@[simp] theorem State.withSetupInput_cellPort (s : State) (x : Bool) : (s.withSetupInput x).cellPort = s.cellPort := rfl
@[simp] theorem State.withSetupInput_drivePort (s : State) (x : Bool) : (s.withSetupInput x).drivePort = s.drivePort := rfl
@[simp] theorem State.withSetupInput_timer (s : State) (x : Bool) : (s.withSetupInput x).timer = s.timer := rfl
@[simp] theorem State.withSetupInput_images (s : State) (x : Bool) : (s.withSetupInput x).images = s.images := rfl
@[simp] theorem State.withSetupInput_calibration (s : State) (x : Bool) : (s.withSetupInput x).calibration = s.calibration := rfl
@[simp] theorem State.withSetupInput_service (s : State) (x : Bool) : (s.withSetupInput x).service = s.service := rfl
@[simp] theorem State.withSetupInput_draws (s : State) (x : Bool) : (s.withSetupInput x).draws = s.draws := rfl
@[simp] theorem State.withSetupInput_pending (s : State) (x : Bool) : (s.withSetupInput x).pending = s.pending := rfl

@[simp] theorem State.withClock_powered (s : State) (x : Nat) : (s.withClock x).powered = s.powered := rfl
@[simp] theorem State.withClock_resetHeld (s : State) (x : Nat) : (s.withClock x).resetHeld = s.resetHeld := rfl
@[simp] theorem State.withClock_estopInput (s : State) (x : Nat) : (s.withClock x).estopInput = s.estopInput := rfl
@[simp] theorem State.withClock_setupInput (s : State) (x : Nat) : (s.withClock x).setupInput = s.setupInput := rfl
@[simp] theorem State.withClock_clock (s : State) (x : Nat) : (s.withClock x).clock = x := rfl
@[simp] theorem State.withClock_acq (s : State) (x : Nat) : (s.withClock x).acq = s.acq := rfl
@[simp] theorem State.withClock_window (s : State) (x : Nat) : (s.withClock x).window = s.window := rfl
@[simp] theorem State.withClock_groupRef (s : State) (x : Nat) : (s.withClock x).groupRef = s.groupRef := rfl
@[simp] theorem State.withClock_rollerRef (s : State) (x : Nat) : (s.withClock x).rollerRef = s.rollerRef := rfl
@[simp] theorem State.withClock_coupling (s : State) (x : Nat) : (s.withClock x).coupling = s.coupling := rfl
@[simp] theorem State.withClock_torque (s : State) (x : Nat) : (s.withClock x).torque = s.torque := rfl
@[simp] theorem State.withClock_composer (s : State) (x : Nat) : (s.withClock x).composer = s.composer := rfl
@[simp] theorem State.withClock_monitor (s : State) (x : Nat) : (s.withClock x).monitor = s.monitor := rfl
@[simp] theorem State.withClock_reaction (s : State) (x : Nat) : (s.withClock x).reaction = s.reaction := rfl
@[simp] theorem State.withClock_history (s : State) (x : Nat) : (s.withClock x).history = s.history := rfl
@[simp] theorem State.withClock_cellPort (s : State) (x : Nat) : (s.withClock x).cellPort = s.cellPort := rfl
@[simp] theorem State.withClock_drivePort (s : State) (x : Nat) : (s.withClock x).drivePort = s.drivePort := rfl
@[simp] theorem State.withClock_timer (s : State) (x : Nat) : (s.withClock x).timer = s.timer := rfl
@[simp] theorem State.withClock_images (s : State) (x : Nat) : (s.withClock x).images = s.images := rfl
@[simp] theorem State.withClock_calibration (s : State) (x : Nat) : (s.withClock x).calibration = s.calibration := rfl
@[simp] theorem State.withClock_service (s : State) (x : Nat) : (s.withClock x).service = s.service := rfl
@[simp] theorem State.withClock_draws (s : State) (x : Nat) : (s.withClock x).draws = s.draws := rfl
@[simp] theorem State.withClock_pending (s : State) (x : Nat) : (s.withClock x).pending = s.pending := rfl

@[simp] theorem State.withAcq_powered (s : State) (x : Quad Acquisition) : (s.withAcq x).powered = s.powered := rfl
@[simp] theorem State.withAcq_resetHeld (s : State) (x : Quad Acquisition) : (s.withAcq x).resetHeld = s.resetHeld := rfl
@[simp] theorem State.withAcq_estopInput (s : State) (x : Quad Acquisition) : (s.withAcq x).estopInput = s.estopInput := rfl
@[simp] theorem State.withAcq_setupInput (s : State) (x : Quad Acquisition) : (s.withAcq x).setupInput = s.setupInput := rfl
@[simp] theorem State.withAcq_clock (s : State) (x : Quad Acquisition) : (s.withAcq x).clock = s.clock := rfl
@[simp] theorem State.withAcq_acq (s : State) (x : Quad Acquisition) : (s.withAcq x).acq = x := rfl
@[simp] theorem State.withAcq_window (s : State) (x : Quad Acquisition) : (s.withAcq x).window = s.window := rfl
@[simp] theorem State.withAcq_groupRef (s : State) (x : Quad Acquisition) : (s.withAcq x).groupRef = s.groupRef := rfl
@[simp] theorem State.withAcq_rollerRef (s : State) (x : Quad Acquisition) : (s.withAcq x).rollerRef = s.rollerRef := rfl
@[simp] theorem State.withAcq_coupling (s : State) (x : Quad Acquisition) : (s.withAcq x).coupling = s.coupling := rfl
@[simp] theorem State.withAcq_torque (s : State) (x : Quad Acquisition) : (s.withAcq x).torque = s.torque := rfl
@[simp] theorem State.withAcq_composer (s : State) (x : Quad Acquisition) : (s.withAcq x).composer = s.composer := rfl
@[simp] theorem State.withAcq_monitor (s : State) (x : Quad Acquisition) : (s.withAcq x).monitor = s.monitor := rfl
@[simp] theorem State.withAcq_reaction (s : State) (x : Quad Acquisition) : (s.withAcq x).reaction = s.reaction := rfl
@[simp] theorem State.withAcq_history (s : State) (x : Quad Acquisition) : (s.withAcq x).history = s.history := rfl
@[simp] theorem State.withAcq_cellPort (s : State) (x : Quad Acquisition) : (s.withAcq x).cellPort = s.cellPort := rfl
@[simp] theorem State.withAcq_drivePort (s : State) (x : Quad Acquisition) : (s.withAcq x).drivePort = s.drivePort := rfl
@[simp] theorem State.withAcq_timer (s : State) (x : Quad Acquisition) : (s.withAcq x).timer = s.timer := rfl
@[simp] theorem State.withAcq_images (s : State) (x : Quad Acquisition) : (s.withAcq x).images = s.images := rfl
@[simp] theorem State.withAcq_calibration (s : State) (x : Quad Acquisition) : (s.withAcq x).calibration = s.calibration := rfl
@[simp] theorem State.withAcq_service (s : State) (x : Quad Acquisition) : (s.withAcq x).service = s.service := rfl
@[simp] theorem State.withAcq_draws (s : State) (x : Quad Acquisition) : (s.withAcq x).draws = s.draws := rfl
@[simp] theorem State.withAcq_pending (s : State) (x : Quad Acquisition) : (s.withAcq x).pending = s.pending := rfl

@[simp] theorem State.withWindow_powered (s : State) (x : Option Half) : (s.withWindow x).powered = s.powered := rfl
@[simp] theorem State.withWindow_resetHeld (s : State) (x : Option Half) : (s.withWindow x).resetHeld = s.resetHeld := rfl
@[simp] theorem State.withWindow_estopInput (s : State) (x : Option Half) : (s.withWindow x).estopInput = s.estopInput := rfl
@[simp] theorem State.withWindow_setupInput (s : State) (x : Option Half) : (s.withWindow x).setupInput = s.setupInput := rfl
@[simp] theorem State.withWindow_clock (s : State) (x : Option Half) : (s.withWindow x).clock = s.clock := rfl
@[simp] theorem State.withWindow_acq (s : State) (x : Option Half) : (s.withWindow x).acq = s.acq := rfl
@[simp] theorem State.withWindow_window (s : State) (x : Option Half) : (s.withWindow x).window = x := rfl
@[simp] theorem State.withWindow_groupRef (s : State) (x : Option Half) : (s.withWindow x).groupRef = s.groupRef := rfl
@[simp] theorem State.withWindow_rollerRef (s : State) (x : Option Half) : (s.withWindow x).rollerRef = s.rollerRef := rfl
@[simp] theorem State.withWindow_coupling (s : State) (x : Option Half) : (s.withWindow x).coupling = s.coupling := rfl
@[simp] theorem State.withWindow_torque (s : State) (x : Option Half) : (s.withWindow x).torque = s.torque := rfl
@[simp] theorem State.withWindow_composer (s : State) (x : Option Half) : (s.withWindow x).composer = s.composer := rfl
@[simp] theorem State.withWindow_monitor (s : State) (x : Option Half) : (s.withWindow x).monitor = s.monitor := rfl
@[simp] theorem State.withWindow_reaction (s : State) (x : Option Half) : (s.withWindow x).reaction = s.reaction := rfl
@[simp] theorem State.withWindow_history (s : State) (x : Option Half) : (s.withWindow x).history = s.history := rfl
@[simp] theorem State.withWindow_cellPort (s : State) (x : Option Half) : (s.withWindow x).cellPort = s.cellPort := rfl
@[simp] theorem State.withWindow_drivePort (s : State) (x : Option Half) : (s.withWindow x).drivePort = s.drivePort := rfl
@[simp] theorem State.withWindow_timer (s : State) (x : Option Half) : (s.withWindow x).timer = s.timer := rfl
@[simp] theorem State.withWindow_images (s : State) (x : Option Half) : (s.withWindow x).images = s.images := rfl
@[simp] theorem State.withWindow_calibration (s : State) (x : Option Half) : (s.withWindow x).calibration = s.calibration := rfl
@[simp] theorem State.withWindow_service (s : State) (x : Option Half) : (s.withWindow x).service = s.service := rfl
@[simp] theorem State.withWindow_draws (s : State) (x : Option Half) : (s.withWindow x).draws = s.draws := rfl
@[simp] theorem State.withWindow_pending (s : State) (x : Option Half) : (s.withWindow x).pending = s.pending := rfl

@[simp] theorem State.withGroupRef_powered (s : State) (x : Quad GroupReference) : (s.withGroupRef x).powered = s.powered := rfl
@[simp] theorem State.withGroupRef_resetHeld (s : State) (x : Quad GroupReference) : (s.withGroupRef x).resetHeld = s.resetHeld := rfl
@[simp] theorem State.withGroupRef_estopInput (s : State) (x : Quad GroupReference) : (s.withGroupRef x).estopInput = s.estopInput := rfl
@[simp] theorem State.withGroupRef_setupInput (s : State) (x : Quad GroupReference) : (s.withGroupRef x).setupInput = s.setupInput := rfl
@[simp] theorem State.withGroupRef_clock (s : State) (x : Quad GroupReference) : (s.withGroupRef x).clock = s.clock := rfl
@[simp] theorem State.withGroupRef_acq (s : State) (x : Quad GroupReference) : (s.withGroupRef x).acq = s.acq := rfl
@[simp] theorem State.withGroupRef_window (s : State) (x : Quad GroupReference) : (s.withGroupRef x).window = s.window := rfl
@[simp] theorem State.withGroupRef_groupRef (s : State) (x : Quad GroupReference) : (s.withGroupRef x).groupRef = x := rfl
@[simp] theorem State.withGroupRef_rollerRef (s : State) (x : Quad GroupReference) : (s.withGroupRef x).rollerRef = s.rollerRef := rfl
@[simp] theorem State.withGroupRef_coupling (s : State) (x : Quad GroupReference) : (s.withGroupRef x).coupling = s.coupling := rfl
@[simp] theorem State.withGroupRef_torque (s : State) (x : Quad GroupReference) : (s.withGroupRef x).torque = s.torque := rfl
@[simp] theorem State.withGroupRef_composer (s : State) (x : Quad GroupReference) : (s.withGroupRef x).composer = s.composer := rfl
@[simp] theorem State.withGroupRef_monitor (s : State) (x : Quad GroupReference) : (s.withGroupRef x).monitor = s.monitor := rfl
@[simp] theorem State.withGroupRef_reaction (s : State) (x : Quad GroupReference) : (s.withGroupRef x).reaction = s.reaction := rfl
@[simp] theorem State.withGroupRef_history (s : State) (x : Quad GroupReference) : (s.withGroupRef x).history = s.history := rfl
@[simp] theorem State.withGroupRef_cellPort (s : State) (x : Quad GroupReference) : (s.withGroupRef x).cellPort = s.cellPort := rfl
@[simp] theorem State.withGroupRef_drivePort (s : State) (x : Quad GroupReference) : (s.withGroupRef x).drivePort = s.drivePort := rfl
@[simp] theorem State.withGroupRef_timer (s : State) (x : Quad GroupReference) : (s.withGroupRef x).timer = s.timer := rfl
@[simp] theorem State.withGroupRef_images (s : State) (x : Quad GroupReference) : (s.withGroupRef x).images = s.images := rfl
@[simp] theorem State.withGroupRef_calibration (s : State) (x : Quad GroupReference) : (s.withGroupRef x).calibration = s.calibration := rfl
@[simp] theorem State.withGroupRef_service (s : State) (x : Quad GroupReference) : (s.withGroupRef x).service = s.service := rfl
@[simp] theorem State.withGroupRef_draws (s : State) (x : Quad GroupReference) : (s.withGroupRef x).draws = s.draws := rfl
@[simp] theorem State.withGroupRef_pending (s : State) (x : Quad GroupReference) : (s.withGroupRef x).pending = s.pending := rfl

@[simp] theorem State.withRollerRef_powered (s : State) (x : Quad RollerReference) : (s.withRollerRef x).powered = s.powered := rfl
@[simp] theorem State.withRollerRef_resetHeld (s : State) (x : Quad RollerReference) : (s.withRollerRef x).resetHeld = s.resetHeld := rfl
@[simp] theorem State.withRollerRef_estopInput (s : State) (x : Quad RollerReference) : (s.withRollerRef x).estopInput = s.estopInput := rfl
@[simp] theorem State.withRollerRef_setupInput (s : State) (x : Quad RollerReference) : (s.withRollerRef x).setupInput = s.setupInput := rfl
@[simp] theorem State.withRollerRef_clock (s : State) (x : Quad RollerReference) : (s.withRollerRef x).clock = s.clock := rfl
@[simp] theorem State.withRollerRef_acq (s : State) (x : Quad RollerReference) : (s.withRollerRef x).acq = s.acq := rfl
@[simp] theorem State.withRollerRef_window (s : State) (x : Quad RollerReference) : (s.withRollerRef x).window = s.window := rfl
@[simp] theorem State.withRollerRef_groupRef (s : State) (x : Quad RollerReference) : (s.withRollerRef x).groupRef = s.groupRef := rfl
@[simp] theorem State.withRollerRef_rollerRef (s : State) (x : Quad RollerReference) : (s.withRollerRef x).rollerRef = x := rfl
@[simp] theorem State.withRollerRef_coupling (s : State) (x : Quad RollerReference) : (s.withRollerRef x).coupling = s.coupling := rfl
@[simp] theorem State.withRollerRef_torque (s : State) (x : Quad RollerReference) : (s.withRollerRef x).torque = s.torque := rfl
@[simp] theorem State.withRollerRef_composer (s : State) (x : Quad RollerReference) : (s.withRollerRef x).composer = s.composer := rfl
@[simp] theorem State.withRollerRef_monitor (s : State) (x : Quad RollerReference) : (s.withRollerRef x).monitor = s.monitor := rfl
@[simp] theorem State.withRollerRef_reaction (s : State) (x : Quad RollerReference) : (s.withRollerRef x).reaction = s.reaction := rfl
@[simp] theorem State.withRollerRef_history (s : State) (x : Quad RollerReference) : (s.withRollerRef x).history = s.history := rfl
@[simp] theorem State.withRollerRef_cellPort (s : State) (x : Quad RollerReference) : (s.withRollerRef x).cellPort = s.cellPort := rfl
@[simp] theorem State.withRollerRef_drivePort (s : State) (x : Quad RollerReference) : (s.withRollerRef x).drivePort = s.drivePort := rfl
@[simp] theorem State.withRollerRef_timer (s : State) (x : Quad RollerReference) : (s.withRollerRef x).timer = s.timer := rfl
@[simp] theorem State.withRollerRef_images (s : State) (x : Quad RollerReference) : (s.withRollerRef x).images = s.images := rfl
@[simp] theorem State.withRollerRef_calibration (s : State) (x : Quad RollerReference) : (s.withRollerRef x).calibration = s.calibration := rfl
@[simp] theorem State.withRollerRef_service (s : State) (x : Quad RollerReference) : (s.withRollerRef x).service = s.service := rfl
@[simp] theorem State.withRollerRef_draws (s : State) (x : Quad RollerReference) : (s.withRollerRef x).draws = s.draws := rfl
@[simp] theorem State.withRollerRef_pending (s : State) (x : Quad RollerReference) : (s.withRollerRef x).pending = s.pending := rfl

@[simp] theorem State.withCoupling_powered (s : State) (x : Quad GroupCoupling) : (s.withCoupling x).powered = s.powered := rfl
@[simp] theorem State.withCoupling_resetHeld (s : State) (x : Quad GroupCoupling) : (s.withCoupling x).resetHeld = s.resetHeld := rfl
@[simp] theorem State.withCoupling_estopInput (s : State) (x : Quad GroupCoupling) : (s.withCoupling x).estopInput = s.estopInput := rfl
@[simp] theorem State.withCoupling_setupInput (s : State) (x : Quad GroupCoupling) : (s.withCoupling x).setupInput = s.setupInput := rfl
@[simp] theorem State.withCoupling_clock (s : State) (x : Quad GroupCoupling) : (s.withCoupling x).clock = s.clock := rfl
@[simp] theorem State.withCoupling_acq (s : State) (x : Quad GroupCoupling) : (s.withCoupling x).acq = s.acq := rfl
@[simp] theorem State.withCoupling_window (s : State) (x : Quad GroupCoupling) : (s.withCoupling x).window = s.window := rfl
@[simp] theorem State.withCoupling_groupRef (s : State) (x : Quad GroupCoupling) : (s.withCoupling x).groupRef = s.groupRef := rfl
@[simp] theorem State.withCoupling_rollerRef (s : State) (x : Quad GroupCoupling) : (s.withCoupling x).rollerRef = s.rollerRef := rfl
@[simp] theorem State.withCoupling_coupling (s : State) (x : Quad GroupCoupling) : (s.withCoupling x).coupling = x := rfl
@[simp] theorem State.withCoupling_torque (s : State) (x : Quad GroupCoupling) : (s.withCoupling x).torque = s.torque := rfl
@[simp] theorem State.withCoupling_composer (s : State) (x : Quad GroupCoupling) : (s.withCoupling x).composer = s.composer := rfl
@[simp] theorem State.withCoupling_monitor (s : State) (x : Quad GroupCoupling) : (s.withCoupling x).monitor = s.monitor := rfl
@[simp] theorem State.withCoupling_reaction (s : State) (x : Quad GroupCoupling) : (s.withCoupling x).reaction = s.reaction := rfl
@[simp] theorem State.withCoupling_history (s : State) (x : Quad GroupCoupling) : (s.withCoupling x).history = s.history := rfl
@[simp] theorem State.withCoupling_cellPort (s : State) (x : Quad GroupCoupling) : (s.withCoupling x).cellPort = s.cellPort := rfl
@[simp] theorem State.withCoupling_drivePort (s : State) (x : Quad GroupCoupling) : (s.withCoupling x).drivePort = s.drivePort := rfl
@[simp] theorem State.withCoupling_timer (s : State) (x : Quad GroupCoupling) : (s.withCoupling x).timer = s.timer := rfl
@[simp] theorem State.withCoupling_images (s : State) (x : Quad GroupCoupling) : (s.withCoupling x).images = s.images := rfl
@[simp] theorem State.withCoupling_calibration (s : State) (x : Quad GroupCoupling) : (s.withCoupling x).calibration = s.calibration := rfl
@[simp] theorem State.withCoupling_service (s : State) (x : Quad GroupCoupling) : (s.withCoupling x).service = s.service := rfl
@[simp] theorem State.withCoupling_draws (s : State) (x : Quad GroupCoupling) : (s.withCoupling x).draws = s.draws := rfl
@[simp] theorem State.withCoupling_pending (s : State) (x : Quad GroupCoupling) : (s.withCoupling x).pending = s.pending := rfl

@[simp] theorem State.withTorque_powered (s : State) (x : Quad RollerTorque) : (s.withTorque x).powered = s.powered := rfl
@[simp] theorem State.withTorque_resetHeld (s : State) (x : Quad RollerTorque) : (s.withTorque x).resetHeld = s.resetHeld := rfl
@[simp] theorem State.withTorque_estopInput (s : State) (x : Quad RollerTorque) : (s.withTorque x).estopInput = s.estopInput := rfl
@[simp] theorem State.withTorque_setupInput (s : State) (x : Quad RollerTorque) : (s.withTorque x).setupInput = s.setupInput := rfl
@[simp] theorem State.withTorque_clock (s : State) (x : Quad RollerTorque) : (s.withTorque x).clock = s.clock := rfl
@[simp] theorem State.withTorque_acq (s : State) (x : Quad RollerTorque) : (s.withTorque x).acq = s.acq := rfl
@[simp] theorem State.withTorque_window (s : State) (x : Quad RollerTorque) : (s.withTorque x).window = s.window := rfl
@[simp] theorem State.withTorque_groupRef (s : State) (x : Quad RollerTorque) : (s.withTorque x).groupRef = s.groupRef := rfl
@[simp] theorem State.withTorque_rollerRef (s : State) (x : Quad RollerTorque) : (s.withTorque x).rollerRef = s.rollerRef := rfl
@[simp] theorem State.withTorque_coupling (s : State) (x : Quad RollerTorque) : (s.withTorque x).coupling = s.coupling := rfl
@[simp] theorem State.withTorque_torque (s : State) (x : Quad RollerTorque) : (s.withTorque x).torque = x := rfl
@[simp] theorem State.withTorque_composer (s : State) (x : Quad RollerTorque) : (s.withTorque x).composer = s.composer := rfl
@[simp] theorem State.withTorque_monitor (s : State) (x : Quad RollerTorque) : (s.withTorque x).monitor = s.monitor := rfl
@[simp] theorem State.withTorque_reaction (s : State) (x : Quad RollerTorque) : (s.withTorque x).reaction = s.reaction := rfl
@[simp] theorem State.withTorque_history (s : State) (x : Quad RollerTorque) : (s.withTorque x).history = s.history := rfl
@[simp] theorem State.withTorque_cellPort (s : State) (x : Quad RollerTorque) : (s.withTorque x).cellPort = s.cellPort := rfl
@[simp] theorem State.withTorque_drivePort (s : State) (x : Quad RollerTorque) : (s.withTorque x).drivePort = s.drivePort := rfl
@[simp] theorem State.withTorque_timer (s : State) (x : Quad RollerTorque) : (s.withTorque x).timer = s.timer := rfl
@[simp] theorem State.withTorque_images (s : State) (x : Quad RollerTorque) : (s.withTorque x).images = s.images := rfl
@[simp] theorem State.withTorque_calibration (s : State) (x : Quad RollerTorque) : (s.withTorque x).calibration = s.calibration := rfl
@[simp] theorem State.withTorque_service (s : State) (x : Quad RollerTorque) : (s.withTorque x).service = s.service := rfl
@[simp] theorem State.withTorque_draws (s : State) (x : Quad RollerTorque) : (s.withTorque x).draws = s.draws := rfl
@[simp] theorem State.withTorque_pending (s : State) (x : Quad RollerTorque) : (s.withTorque x).pending = s.pending := rfl

@[simp] theorem State.withComposer_powered (s : State) (x : Quad Composer) : (s.withComposer x).powered = s.powered := rfl
@[simp] theorem State.withComposer_resetHeld (s : State) (x : Quad Composer) : (s.withComposer x).resetHeld = s.resetHeld := rfl
@[simp] theorem State.withComposer_estopInput (s : State) (x : Quad Composer) : (s.withComposer x).estopInput = s.estopInput := rfl
@[simp] theorem State.withComposer_setupInput (s : State) (x : Quad Composer) : (s.withComposer x).setupInput = s.setupInput := rfl
@[simp] theorem State.withComposer_clock (s : State) (x : Quad Composer) : (s.withComposer x).clock = s.clock := rfl
@[simp] theorem State.withComposer_acq (s : State) (x : Quad Composer) : (s.withComposer x).acq = s.acq := rfl
@[simp] theorem State.withComposer_window (s : State) (x : Quad Composer) : (s.withComposer x).window = s.window := rfl
@[simp] theorem State.withComposer_groupRef (s : State) (x : Quad Composer) : (s.withComposer x).groupRef = s.groupRef := rfl
@[simp] theorem State.withComposer_rollerRef (s : State) (x : Quad Composer) : (s.withComposer x).rollerRef = s.rollerRef := rfl
@[simp] theorem State.withComposer_coupling (s : State) (x : Quad Composer) : (s.withComposer x).coupling = s.coupling := rfl
@[simp] theorem State.withComposer_torque (s : State) (x : Quad Composer) : (s.withComposer x).torque = s.torque := rfl
@[simp] theorem State.withComposer_composer (s : State) (x : Quad Composer) : (s.withComposer x).composer = x := rfl
@[simp] theorem State.withComposer_monitor (s : State) (x : Quad Composer) : (s.withComposer x).monitor = s.monitor := rfl
@[simp] theorem State.withComposer_reaction (s : State) (x : Quad Composer) : (s.withComposer x).reaction = s.reaction := rfl
@[simp] theorem State.withComposer_history (s : State) (x : Quad Composer) : (s.withComposer x).history = s.history := rfl
@[simp] theorem State.withComposer_cellPort (s : State) (x : Quad Composer) : (s.withComposer x).cellPort = s.cellPort := rfl
@[simp] theorem State.withComposer_drivePort (s : State) (x : Quad Composer) : (s.withComposer x).drivePort = s.drivePort := rfl
@[simp] theorem State.withComposer_timer (s : State) (x : Quad Composer) : (s.withComposer x).timer = s.timer := rfl
@[simp] theorem State.withComposer_images (s : State) (x : Quad Composer) : (s.withComposer x).images = s.images := rfl
@[simp] theorem State.withComposer_calibration (s : State) (x : Quad Composer) : (s.withComposer x).calibration = s.calibration := rfl
@[simp] theorem State.withComposer_service (s : State) (x : Quad Composer) : (s.withComposer x).service = s.service := rfl
@[simp] theorem State.withComposer_draws (s : State) (x : Quad Composer) : (s.withComposer x).draws = s.draws := rfl
@[simp] theorem State.withComposer_pending (s : State) (x : Quad Composer) : (s.withComposer x).pending = s.pending := rfl

@[simp] theorem State.withMonitor_powered (s : State) (x : Quad Monitor) : (s.withMonitor x).powered = s.powered := rfl
@[simp] theorem State.withMonitor_resetHeld (s : State) (x : Quad Monitor) : (s.withMonitor x).resetHeld = s.resetHeld := rfl
@[simp] theorem State.withMonitor_estopInput (s : State) (x : Quad Monitor) : (s.withMonitor x).estopInput = s.estopInput := rfl
@[simp] theorem State.withMonitor_setupInput (s : State) (x : Quad Monitor) : (s.withMonitor x).setupInput = s.setupInput := rfl
@[simp] theorem State.withMonitor_clock (s : State) (x : Quad Monitor) : (s.withMonitor x).clock = s.clock := rfl
@[simp] theorem State.withMonitor_acq (s : State) (x : Quad Monitor) : (s.withMonitor x).acq = s.acq := rfl
@[simp] theorem State.withMonitor_window (s : State) (x : Quad Monitor) : (s.withMonitor x).window = s.window := rfl
@[simp] theorem State.withMonitor_groupRef (s : State) (x : Quad Monitor) : (s.withMonitor x).groupRef = s.groupRef := rfl
@[simp] theorem State.withMonitor_rollerRef (s : State) (x : Quad Monitor) : (s.withMonitor x).rollerRef = s.rollerRef := rfl
@[simp] theorem State.withMonitor_coupling (s : State) (x : Quad Monitor) : (s.withMonitor x).coupling = s.coupling := rfl
@[simp] theorem State.withMonitor_torque (s : State) (x : Quad Monitor) : (s.withMonitor x).torque = s.torque := rfl
@[simp] theorem State.withMonitor_composer (s : State) (x : Quad Monitor) : (s.withMonitor x).composer = s.composer := rfl
@[simp] theorem State.withMonitor_monitor (s : State) (x : Quad Monitor) : (s.withMonitor x).monitor = x := rfl
@[simp] theorem State.withMonitor_reaction (s : State) (x : Quad Monitor) : (s.withMonitor x).reaction = s.reaction := rfl
@[simp] theorem State.withMonitor_history (s : State) (x : Quad Monitor) : (s.withMonitor x).history = s.history := rfl
@[simp] theorem State.withMonitor_cellPort (s : State) (x : Quad Monitor) : (s.withMonitor x).cellPort = s.cellPort := rfl
@[simp] theorem State.withMonitor_drivePort (s : State) (x : Quad Monitor) : (s.withMonitor x).drivePort = s.drivePort := rfl
@[simp] theorem State.withMonitor_timer (s : State) (x : Quad Monitor) : (s.withMonitor x).timer = s.timer := rfl
@[simp] theorem State.withMonitor_images (s : State) (x : Quad Monitor) : (s.withMonitor x).images = s.images := rfl
@[simp] theorem State.withMonitor_calibration (s : State) (x : Quad Monitor) : (s.withMonitor x).calibration = s.calibration := rfl
@[simp] theorem State.withMonitor_service (s : State) (x : Quad Monitor) : (s.withMonitor x).service = s.service := rfl
@[simp] theorem State.withMonitor_draws (s : State) (x : Quad Monitor) : (s.withMonitor x).draws = s.draws := rfl
@[simp] theorem State.withMonitor_pending (s : State) (x : Quad Monitor) : (s.withMonitor x).pending = s.pending := rfl

@[simp] theorem State.withReaction_powered (s : State) (x : Reaction) : (s.withReaction x).powered = s.powered := rfl
@[simp] theorem State.withReaction_resetHeld (s : State) (x : Reaction) : (s.withReaction x).resetHeld = s.resetHeld := rfl
@[simp] theorem State.withReaction_estopInput (s : State) (x : Reaction) : (s.withReaction x).estopInput = s.estopInput := rfl
@[simp] theorem State.withReaction_setupInput (s : State) (x : Reaction) : (s.withReaction x).setupInput = s.setupInput := rfl
@[simp] theorem State.withReaction_clock (s : State) (x : Reaction) : (s.withReaction x).clock = s.clock := rfl
@[simp] theorem State.withReaction_acq (s : State) (x : Reaction) : (s.withReaction x).acq = s.acq := rfl
@[simp] theorem State.withReaction_window (s : State) (x : Reaction) : (s.withReaction x).window = s.window := rfl
@[simp] theorem State.withReaction_groupRef (s : State) (x : Reaction) : (s.withReaction x).groupRef = s.groupRef := rfl
@[simp] theorem State.withReaction_rollerRef (s : State) (x : Reaction) : (s.withReaction x).rollerRef = s.rollerRef := rfl
@[simp] theorem State.withReaction_coupling (s : State) (x : Reaction) : (s.withReaction x).coupling = s.coupling := rfl
@[simp] theorem State.withReaction_torque (s : State) (x : Reaction) : (s.withReaction x).torque = s.torque := rfl
@[simp] theorem State.withReaction_composer (s : State) (x : Reaction) : (s.withReaction x).composer = s.composer := rfl
@[simp] theorem State.withReaction_monitor (s : State) (x : Reaction) : (s.withReaction x).monitor = s.monitor := rfl
@[simp] theorem State.withReaction_reaction (s : State) (x : Reaction) : (s.withReaction x).reaction = x := rfl
@[simp] theorem State.withReaction_history (s : State) (x : Reaction) : (s.withReaction x).history = s.history := rfl
@[simp] theorem State.withReaction_cellPort (s : State) (x : Reaction) : (s.withReaction x).cellPort = s.cellPort := rfl
@[simp] theorem State.withReaction_drivePort (s : State) (x : Reaction) : (s.withReaction x).drivePort = s.drivePort := rfl
@[simp] theorem State.withReaction_timer (s : State) (x : Reaction) : (s.withReaction x).timer = s.timer := rfl
@[simp] theorem State.withReaction_images (s : State) (x : Reaction) : (s.withReaction x).images = s.images := rfl
@[simp] theorem State.withReaction_calibration (s : State) (x : Reaction) : (s.withReaction x).calibration = s.calibration := rfl
@[simp] theorem State.withReaction_service (s : State) (x : Reaction) : (s.withReaction x).service = s.service := rfl
@[simp] theorem State.withReaction_draws (s : State) (x : Reaction) : (s.withReaction x).draws = s.draws := rfl
@[simp] theorem State.withReaction_pending (s : State) (x : Reaction) : (s.withReaction x).pending = s.pending := rfl

@[simp] theorem State.withHistory_powered (s : State) (x : History) : (s.withHistory x).powered = s.powered := rfl
@[simp] theorem State.withHistory_resetHeld (s : State) (x : History) : (s.withHistory x).resetHeld = s.resetHeld := rfl
@[simp] theorem State.withHistory_estopInput (s : State) (x : History) : (s.withHistory x).estopInput = s.estopInput := rfl
@[simp] theorem State.withHistory_setupInput (s : State) (x : History) : (s.withHistory x).setupInput = s.setupInput := rfl
@[simp] theorem State.withHistory_clock (s : State) (x : History) : (s.withHistory x).clock = s.clock := rfl
@[simp] theorem State.withHistory_acq (s : State) (x : History) : (s.withHistory x).acq = s.acq := rfl
@[simp] theorem State.withHistory_window (s : State) (x : History) : (s.withHistory x).window = s.window := rfl
@[simp] theorem State.withHistory_groupRef (s : State) (x : History) : (s.withHistory x).groupRef = s.groupRef := rfl
@[simp] theorem State.withHistory_rollerRef (s : State) (x : History) : (s.withHistory x).rollerRef = s.rollerRef := rfl
@[simp] theorem State.withHistory_coupling (s : State) (x : History) : (s.withHistory x).coupling = s.coupling := rfl
@[simp] theorem State.withHistory_torque (s : State) (x : History) : (s.withHistory x).torque = s.torque := rfl
@[simp] theorem State.withHistory_composer (s : State) (x : History) : (s.withHistory x).composer = s.composer := rfl
@[simp] theorem State.withHistory_monitor (s : State) (x : History) : (s.withHistory x).monitor = s.monitor := rfl
@[simp] theorem State.withHistory_reaction (s : State) (x : History) : (s.withHistory x).reaction = s.reaction := rfl
@[simp] theorem State.withHistory_history (s : State) (x : History) : (s.withHistory x).history = x := rfl
@[simp] theorem State.withHistory_cellPort (s : State) (x : History) : (s.withHistory x).cellPort = s.cellPort := rfl
@[simp] theorem State.withHistory_drivePort (s : State) (x : History) : (s.withHistory x).drivePort = s.drivePort := rfl
@[simp] theorem State.withHistory_timer (s : State) (x : History) : (s.withHistory x).timer = s.timer := rfl
@[simp] theorem State.withHistory_images (s : State) (x : History) : (s.withHistory x).images = s.images := rfl
@[simp] theorem State.withHistory_calibration (s : State) (x : History) : (s.withHistory x).calibration = s.calibration := rfl
@[simp] theorem State.withHistory_service (s : State) (x : History) : (s.withHistory x).service = s.service := rfl
@[simp] theorem State.withHistory_draws (s : State) (x : History) : (s.withHistory x).draws = s.draws := rfl
@[simp] theorem State.withHistory_pending (s : State) (x : History) : (s.withHistory x).pending = s.pending := rfl

@[simp] theorem State.withCellPort_powered (s : State) (x : CellPort) : (s.withCellPort x).powered = s.powered := rfl
@[simp] theorem State.withCellPort_resetHeld (s : State) (x : CellPort) : (s.withCellPort x).resetHeld = s.resetHeld := rfl
@[simp] theorem State.withCellPort_estopInput (s : State) (x : CellPort) : (s.withCellPort x).estopInput = s.estopInput := rfl
@[simp] theorem State.withCellPort_setupInput (s : State) (x : CellPort) : (s.withCellPort x).setupInput = s.setupInput := rfl
@[simp] theorem State.withCellPort_clock (s : State) (x : CellPort) : (s.withCellPort x).clock = s.clock := rfl
@[simp] theorem State.withCellPort_acq (s : State) (x : CellPort) : (s.withCellPort x).acq = s.acq := rfl
@[simp] theorem State.withCellPort_window (s : State) (x : CellPort) : (s.withCellPort x).window = s.window := rfl
@[simp] theorem State.withCellPort_groupRef (s : State) (x : CellPort) : (s.withCellPort x).groupRef = s.groupRef := rfl
@[simp] theorem State.withCellPort_rollerRef (s : State) (x : CellPort) : (s.withCellPort x).rollerRef = s.rollerRef := rfl
@[simp] theorem State.withCellPort_coupling (s : State) (x : CellPort) : (s.withCellPort x).coupling = s.coupling := rfl
@[simp] theorem State.withCellPort_torque (s : State) (x : CellPort) : (s.withCellPort x).torque = s.torque := rfl
@[simp] theorem State.withCellPort_composer (s : State) (x : CellPort) : (s.withCellPort x).composer = s.composer := rfl
@[simp] theorem State.withCellPort_monitor (s : State) (x : CellPort) : (s.withCellPort x).monitor = s.monitor := rfl
@[simp] theorem State.withCellPort_reaction (s : State) (x : CellPort) : (s.withCellPort x).reaction = s.reaction := rfl
@[simp] theorem State.withCellPort_history (s : State) (x : CellPort) : (s.withCellPort x).history = s.history := rfl
@[simp] theorem State.withCellPort_cellPort (s : State) (x : CellPort) : (s.withCellPort x).cellPort = x := rfl
@[simp] theorem State.withCellPort_drivePort (s : State) (x : CellPort) : (s.withCellPort x).drivePort = s.drivePort := rfl
@[simp] theorem State.withCellPort_timer (s : State) (x : CellPort) : (s.withCellPort x).timer = s.timer := rfl
@[simp] theorem State.withCellPort_images (s : State) (x : CellPort) : (s.withCellPort x).images = s.images := rfl
@[simp] theorem State.withCellPort_calibration (s : State) (x : CellPort) : (s.withCellPort x).calibration = s.calibration := rfl
@[simp] theorem State.withCellPort_service (s : State) (x : CellPort) : (s.withCellPort x).service = s.service := rfl
@[simp] theorem State.withCellPort_draws (s : State) (x : CellPort) : (s.withCellPort x).draws = s.draws := rfl
@[simp] theorem State.withCellPort_pending (s : State) (x : CellPort) : (s.withCellPort x).pending = s.pending := rfl

@[simp] theorem State.withDrivePort_powered (s : State) (x : DrivePort) : (s.withDrivePort x).powered = s.powered := rfl
@[simp] theorem State.withDrivePort_resetHeld (s : State) (x : DrivePort) : (s.withDrivePort x).resetHeld = s.resetHeld := rfl
@[simp] theorem State.withDrivePort_estopInput (s : State) (x : DrivePort) : (s.withDrivePort x).estopInput = s.estopInput := rfl
@[simp] theorem State.withDrivePort_setupInput (s : State) (x : DrivePort) : (s.withDrivePort x).setupInput = s.setupInput := rfl
@[simp] theorem State.withDrivePort_clock (s : State) (x : DrivePort) : (s.withDrivePort x).clock = s.clock := rfl
@[simp] theorem State.withDrivePort_acq (s : State) (x : DrivePort) : (s.withDrivePort x).acq = s.acq := rfl
@[simp] theorem State.withDrivePort_window (s : State) (x : DrivePort) : (s.withDrivePort x).window = s.window := rfl
@[simp] theorem State.withDrivePort_groupRef (s : State) (x : DrivePort) : (s.withDrivePort x).groupRef = s.groupRef := rfl
@[simp] theorem State.withDrivePort_rollerRef (s : State) (x : DrivePort) : (s.withDrivePort x).rollerRef = s.rollerRef := rfl
@[simp] theorem State.withDrivePort_coupling (s : State) (x : DrivePort) : (s.withDrivePort x).coupling = s.coupling := rfl
@[simp] theorem State.withDrivePort_torque (s : State) (x : DrivePort) : (s.withDrivePort x).torque = s.torque := rfl
@[simp] theorem State.withDrivePort_composer (s : State) (x : DrivePort) : (s.withDrivePort x).composer = s.composer := rfl
@[simp] theorem State.withDrivePort_monitor (s : State) (x : DrivePort) : (s.withDrivePort x).monitor = s.monitor := rfl
@[simp] theorem State.withDrivePort_reaction (s : State) (x : DrivePort) : (s.withDrivePort x).reaction = s.reaction := rfl
@[simp] theorem State.withDrivePort_history (s : State) (x : DrivePort) : (s.withDrivePort x).history = s.history := rfl
@[simp] theorem State.withDrivePort_cellPort (s : State) (x : DrivePort) : (s.withDrivePort x).cellPort = s.cellPort := rfl
@[simp] theorem State.withDrivePort_drivePort (s : State) (x : DrivePort) : (s.withDrivePort x).drivePort = x := rfl
@[simp] theorem State.withDrivePort_timer (s : State) (x : DrivePort) : (s.withDrivePort x).timer = s.timer := rfl
@[simp] theorem State.withDrivePort_images (s : State) (x : DrivePort) : (s.withDrivePort x).images = s.images := rfl
@[simp] theorem State.withDrivePort_calibration (s : State) (x : DrivePort) : (s.withDrivePort x).calibration = s.calibration := rfl
@[simp] theorem State.withDrivePort_service (s : State) (x : DrivePort) : (s.withDrivePort x).service = s.service := rfl
@[simp] theorem State.withDrivePort_draws (s : State) (x : DrivePort) : (s.withDrivePort x).draws = s.draws := rfl
@[simp] theorem State.withDrivePort_pending (s : State) (x : DrivePort) : (s.withDrivePort x).pending = s.pending := rfl

@[simp] theorem State.withTimer_powered (s : State) (x : Timer) : (s.withTimer x).powered = s.powered := rfl
@[simp] theorem State.withTimer_resetHeld (s : State) (x : Timer) : (s.withTimer x).resetHeld = s.resetHeld := rfl
@[simp] theorem State.withTimer_estopInput (s : State) (x : Timer) : (s.withTimer x).estopInput = s.estopInput := rfl
@[simp] theorem State.withTimer_setupInput (s : State) (x : Timer) : (s.withTimer x).setupInput = s.setupInput := rfl
@[simp] theorem State.withTimer_clock (s : State) (x : Timer) : (s.withTimer x).clock = s.clock := rfl
@[simp] theorem State.withTimer_acq (s : State) (x : Timer) : (s.withTimer x).acq = s.acq := rfl
@[simp] theorem State.withTimer_window (s : State) (x : Timer) : (s.withTimer x).window = s.window := rfl
@[simp] theorem State.withTimer_groupRef (s : State) (x : Timer) : (s.withTimer x).groupRef = s.groupRef := rfl
@[simp] theorem State.withTimer_rollerRef (s : State) (x : Timer) : (s.withTimer x).rollerRef = s.rollerRef := rfl
@[simp] theorem State.withTimer_coupling (s : State) (x : Timer) : (s.withTimer x).coupling = s.coupling := rfl
@[simp] theorem State.withTimer_torque (s : State) (x : Timer) : (s.withTimer x).torque = s.torque := rfl
@[simp] theorem State.withTimer_composer (s : State) (x : Timer) : (s.withTimer x).composer = s.composer := rfl
@[simp] theorem State.withTimer_monitor (s : State) (x : Timer) : (s.withTimer x).monitor = s.monitor := rfl
@[simp] theorem State.withTimer_reaction (s : State) (x : Timer) : (s.withTimer x).reaction = s.reaction := rfl
@[simp] theorem State.withTimer_history (s : State) (x : Timer) : (s.withTimer x).history = s.history := rfl
@[simp] theorem State.withTimer_cellPort (s : State) (x : Timer) : (s.withTimer x).cellPort = s.cellPort := rfl
@[simp] theorem State.withTimer_drivePort (s : State) (x : Timer) : (s.withTimer x).drivePort = s.drivePort := rfl
@[simp] theorem State.withTimer_timer (s : State) (x : Timer) : (s.withTimer x).timer = x := rfl
@[simp] theorem State.withTimer_images (s : State) (x : Timer) : (s.withTimer x).images = s.images := rfl
@[simp] theorem State.withTimer_calibration (s : State) (x : Timer) : (s.withTimer x).calibration = s.calibration := rfl
@[simp] theorem State.withTimer_service (s : State) (x : Timer) : (s.withTimer x).service = s.service := rfl
@[simp] theorem State.withTimer_draws (s : State) (x : Timer) : (s.withTimer x).draws = s.draws := rfl
@[simp] theorem State.withTimer_pending (s : State) (x : Timer) : (s.withTimer x).pending = s.pending := rfl

@[simp] theorem State.withImages_powered (s : State) (x : ImageStore) : (s.withImages x).powered = s.powered := rfl
@[simp] theorem State.withImages_resetHeld (s : State) (x : ImageStore) : (s.withImages x).resetHeld = s.resetHeld := rfl
@[simp] theorem State.withImages_estopInput (s : State) (x : ImageStore) : (s.withImages x).estopInput = s.estopInput := rfl
@[simp] theorem State.withImages_setupInput (s : State) (x : ImageStore) : (s.withImages x).setupInput = s.setupInput := rfl
@[simp] theorem State.withImages_clock (s : State) (x : ImageStore) : (s.withImages x).clock = s.clock := rfl
@[simp] theorem State.withImages_acq (s : State) (x : ImageStore) : (s.withImages x).acq = s.acq := rfl
@[simp] theorem State.withImages_window (s : State) (x : ImageStore) : (s.withImages x).window = s.window := rfl
@[simp] theorem State.withImages_groupRef (s : State) (x : ImageStore) : (s.withImages x).groupRef = s.groupRef := rfl
@[simp] theorem State.withImages_rollerRef (s : State) (x : ImageStore) : (s.withImages x).rollerRef = s.rollerRef := rfl
@[simp] theorem State.withImages_coupling (s : State) (x : ImageStore) : (s.withImages x).coupling = s.coupling := rfl
@[simp] theorem State.withImages_torque (s : State) (x : ImageStore) : (s.withImages x).torque = s.torque := rfl
@[simp] theorem State.withImages_composer (s : State) (x : ImageStore) : (s.withImages x).composer = s.composer := rfl
@[simp] theorem State.withImages_monitor (s : State) (x : ImageStore) : (s.withImages x).monitor = s.monitor := rfl
@[simp] theorem State.withImages_reaction (s : State) (x : ImageStore) : (s.withImages x).reaction = s.reaction := rfl
@[simp] theorem State.withImages_history (s : State) (x : ImageStore) : (s.withImages x).history = s.history := rfl
@[simp] theorem State.withImages_cellPort (s : State) (x : ImageStore) : (s.withImages x).cellPort = s.cellPort := rfl
@[simp] theorem State.withImages_drivePort (s : State) (x : ImageStore) : (s.withImages x).drivePort = s.drivePort := rfl
@[simp] theorem State.withImages_timer (s : State) (x : ImageStore) : (s.withImages x).timer = s.timer := rfl
@[simp] theorem State.withImages_images (s : State) (x : ImageStore) : (s.withImages x).images = x := rfl
@[simp] theorem State.withImages_calibration (s : State) (x : ImageStore) : (s.withImages x).calibration = s.calibration := rfl
@[simp] theorem State.withImages_service (s : State) (x : ImageStore) : (s.withImages x).service = s.service := rfl
@[simp] theorem State.withImages_draws (s : State) (x : ImageStore) : (s.withImages x).draws = s.draws := rfl
@[simp] theorem State.withImages_pending (s : State) (x : ImageStore) : (s.withImages x).pending = s.pending := rfl

@[simp] theorem State.withCalibration_powered (s : State) (x : CalibrationStore) : (s.withCalibration x).powered = s.powered := rfl
@[simp] theorem State.withCalibration_resetHeld (s : State) (x : CalibrationStore) : (s.withCalibration x).resetHeld = s.resetHeld := rfl
@[simp] theorem State.withCalibration_estopInput (s : State) (x : CalibrationStore) : (s.withCalibration x).estopInput = s.estopInput := rfl
@[simp] theorem State.withCalibration_setupInput (s : State) (x : CalibrationStore) : (s.withCalibration x).setupInput = s.setupInput := rfl
@[simp] theorem State.withCalibration_clock (s : State) (x : CalibrationStore) : (s.withCalibration x).clock = s.clock := rfl
@[simp] theorem State.withCalibration_acq (s : State) (x : CalibrationStore) : (s.withCalibration x).acq = s.acq := rfl
@[simp] theorem State.withCalibration_window (s : State) (x : CalibrationStore) : (s.withCalibration x).window = s.window := rfl
@[simp] theorem State.withCalibration_groupRef (s : State) (x : CalibrationStore) : (s.withCalibration x).groupRef = s.groupRef := rfl
@[simp] theorem State.withCalibration_rollerRef (s : State) (x : CalibrationStore) : (s.withCalibration x).rollerRef = s.rollerRef := rfl
@[simp] theorem State.withCalibration_coupling (s : State) (x : CalibrationStore) : (s.withCalibration x).coupling = s.coupling := rfl
@[simp] theorem State.withCalibration_torque (s : State) (x : CalibrationStore) : (s.withCalibration x).torque = s.torque := rfl
@[simp] theorem State.withCalibration_composer (s : State) (x : CalibrationStore) : (s.withCalibration x).composer = s.composer := rfl
@[simp] theorem State.withCalibration_monitor (s : State) (x : CalibrationStore) : (s.withCalibration x).monitor = s.monitor := rfl
@[simp] theorem State.withCalibration_reaction (s : State) (x : CalibrationStore) : (s.withCalibration x).reaction = s.reaction := rfl
@[simp] theorem State.withCalibration_history (s : State) (x : CalibrationStore) : (s.withCalibration x).history = s.history := rfl
@[simp] theorem State.withCalibration_cellPort (s : State) (x : CalibrationStore) : (s.withCalibration x).cellPort = s.cellPort := rfl
@[simp] theorem State.withCalibration_drivePort (s : State) (x : CalibrationStore) : (s.withCalibration x).drivePort = s.drivePort := rfl
@[simp] theorem State.withCalibration_timer (s : State) (x : CalibrationStore) : (s.withCalibration x).timer = s.timer := rfl
@[simp] theorem State.withCalibration_images (s : State) (x : CalibrationStore) : (s.withCalibration x).images = s.images := rfl
@[simp] theorem State.withCalibration_calibration (s : State) (x : CalibrationStore) : (s.withCalibration x).calibration = x := rfl
@[simp] theorem State.withCalibration_service (s : State) (x : CalibrationStore) : (s.withCalibration x).service = s.service := rfl
@[simp] theorem State.withCalibration_draws (s : State) (x : CalibrationStore) : (s.withCalibration x).draws = s.draws := rfl
@[simp] theorem State.withCalibration_pending (s : State) (x : CalibrationStore) : (s.withCalibration x).pending = s.pending := rfl

@[simp] theorem State.withService_powered (s : State) (x : Service) : (s.withService x).powered = s.powered := rfl
@[simp] theorem State.withService_resetHeld (s : State) (x : Service) : (s.withService x).resetHeld = s.resetHeld := rfl
@[simp] theorem State.withService_estopInput (s : State) (x : Service) : (s.withService x).estopInput = s.estopInput := rfl
@[simp] theorem State.withService_setupInput (s : State) (x : Service) : (s.withService x).setupInput = s.setupInput := rfl
@[simp] theorem State.withService_clock (s : State) (x : Service) : (s.withService x).clock = s.clock := rfl
@[simp] theorem State.withService_acq (s : State) (x : Service) : (s.withService x).acq = s.acq := rfl
@[simp] theorem State.withService_window (s : State) (x : Service) : (s.withService x).window = s.window := rfl
@[simp] theorem State.withService_groupRef (s : State) (x : Service) : (s.withService x).groupRef = s.groupRef := rfl
@[simp] theorem State.withService_rollerRef (s : State) (x : Service) : (s.withService x).rollerRef = s.rollerRef := rfl
@[simp] theorem State.withService_coupling (s : State) (x : Service) : (s.withService x).coupling = s.coupling := rfl
@[simp] theorem State.withService_torque (s : State) (x : Service) : (s.withService x).torque = s.torque := rfl
@[simp] theorem State.withService_composer (s : State) (x : Service) : (s.withService x).composer = s.composer := rfl
@[simp] theorem State.withService_monitor (s : State) (x : Service) : (s.withService x).monitor = s.monitor := rfl
@[simp] theorem State.withService_reaction (s : State) (x : Service) : (s.withService x).reaction = s.reaction := rfl
@[simp] theorem State.withService_history (s : State) (x : Service) : (s.withService x).history = s.history := rfl
@[simp] theorem State.withService_cellPort (s : State) (x : Service) : (s.withService x).cellPort = s.cellPort := rfl
@[simp] theorem State.withService_drivePort (s : State) (x : Service) : (s.withService x).drivePort = s.drivePort := rfl
@[simp] theorem State.withService_timer (s : State) (x : Service) : (s.withService x).timer = s.timer := rfl
@[simp] theorem State.withService_images (s : State) (x : Service) : (s.withService x).images = s.images := rfl
@[simp] theorem State.withService_calibration (s : State) (x : Service) : (s.withService x).calibration = s.calibration := rfl
@[simp] theorem State.withService_service (s : State) (x : Service) : (s.withService x).service = x := rfl
@[simp] theorem State.withService_draws (s : State) (x : Service) : (s.withService x).draws = s.draws := rfl
@[simp] theorem State.withService_pending (s : State) (x : Service) : (s.withService x).pending = s.pending := rfl

@[simp] theorem State.withDraws_powered (s : State) (x : Nat) : (s.withDraws x).powered = s.powered := rfl
@[simp] theorem State.withDraws_resetHeld (s : State) (x : Nat) : (s.withDraws x).resetHeld = s.resetHeld := rfl
@[simp] theorem State.withDraws_estopInput (s : State) (x : Nat) : (s.withDraws x).estopInput = s.estopInput := rfl
@[simp] theorem State.withDraws_setupInput (s : State) (x : Nat) : (s.withDraws x).setupInput = s.setupInput := rfl
@[simp] theorem State.withDraws_clock (s : State) (x : Nat) : (s.withDraws x).clock = s.clock := rfl
@[simp] theorem State.withDraws_acq (s : State) (x : Nat) : (s.withDraws x).acq = s.acq := rfl
@[simp] theorem State.withDraws_window (s : State) (x : Nat) : (s.withDraws x).window = s.window := rfl
@[simp] theorem State.withDraws_groupRef (s : State) (x : Nat) : (s.withDraws x).groupRef = s.groupRef := rfl
@[simp] theorem State.withDraws_rollerRef (s : State) (x : Nat) : (s.withDraws x).rollerRef = s.rollerRef := rfl
@[simp] theorem State.withDraws_coupling (s : State) (x : Nat) : (s.withDraws x).coupling = s.coupling := rfl
@[simp] theorem State.withDraws_torque (s : State) (x : Nat) : (s.withDraws x).torque = s.torque := rfl
@[simp] theorem State.withDraws_composer (s : State) (x : Nat) : (s.withDraws x).composer = s.composer := rfl
@[simp] theorem State.withDraws_monitor (s : State) (x : Nat) : (s.withDraws x).monitor = s.monitor := rfl
@[simp] theorem State.withDraws_reaction (s : State) (x : Nat) : (s.withDraws x).reaction = s.reaction := rfl
@[simp] theorem State.withDraws_history (s : State) (x : Nat) : (s.withDraws x).history = s.history := rfl
@[simp] theorem State.withDraws_cellPort (s : State) (x : Nat) : (s.withDraws x).cellPort = s.cellPort := rfl
@[simp] theorem State.withDraws_drivePort (s : State) (x : Nat) : (s.withDraws x).drivePort = s.drivePort := rfl
@[simp] theorem State.withDraws_timer (s : State) (x : Nat) : (s.withDraws x).timer = s.timer := rfl
@[simp] theorem State.withDraws_images (s : State) (x : Nat) : (s.withDraws x).images = s.images := rfl
@[simp] theorem State.withDraws_calibration (s : State) (x : Nat) : (s.withDraws x).calibration = s.calibration := rfl
@[simp] theorem State.withDraws_service (s : State) (x : Nat) : (s.withDraws x).service = s.service := rfl
@[simp] theorem State.withDraws_draws (s : State) (x : Nat) : (s.withDraws x).draws = x := rfl
@[simp] theorem State.withDraws_pending (s : State) (x : Nat) : (s.withDraws x).pending = s.pending := rfl

end Sys2Proof.Machine
end

