-- ==== Sys2Proof/Laws/Reports.lean ====
section
/-! SUPPORT. What the shared operations of Ops leave unchanged. -/

namespace Sys2Proof.Machine

@[simp] theorem State.setLevels_frame (s : State) (l : Quad Level) :
    (s.setLevels l).powered = s.powered ∧
    (s.setLevels l).resetHeld = s.resetHeld ∧
    (s.setLevels l).estopInput = s.estopInput ∧
    (s.setLevels l).setupInput = s.setupInput ∧
    (s.setLevels l).clock = s.clock ∧
    (s.setLevels l).acq = s.acq ∧
    (s.setLevels l).window = s.window ∧
    (s.setLevels l).groupRef = s.groupRef ∧
    (s.setLevels l).rollerRef = s.rollerRef ∧
    (s.setLevels l).torque = s.torque ∧
    (s.setLevels l).composer = s.composer ∧
    (s.setLevels l).monitor = s.monitor ∧
    (s.setLevels l).history = s.history ∧
    (s.setLevels l).cellPort = s.cellPort ∧
    (s.setLevels l).drivePort = s.drivePort ∧
    (s.setLevels l).timer = s.timer ∧
    (s.setLevels l).images = s.images ∧
    (s.setLevels l).calibration = s.calibration ∧
    (s.setLevels l).service = s.service ∧
    (s.setLevels l).draws = s.draws ∧
    (s.setLevels l).pending = s.pending := by
  simp [State.setLevels]

@[simp] theorem State.escalate_frame (s : State) (k : FaultKind) (c : Chan) :
    (s.escalate k c).powered = s.powered ∧
    (s.escalate k c).resetHeld = s.resetHeld ∧
    (s.escalate k c).estopInput = s.estopInput ∧
    (s.escalate k c).setupInput = s.setupInput ∧
    (s.escalate k c).clock = s.clock ∧
    (s.escalate k c).acq = s.acq ∧
    (s.escalate k c).window = s.window ∧
    (s.escalate k c).groupRef = s.groupRef ∧
    (s.escalate k c).rollerRef = s.rollerRef ∧
    (s.escalate k c).torque = s.torque ∧
    (s.escalate k c).composer = s.composer ∧
    (s.escalate k c).monitor = s.monitor ∧
    (s.escalate k c).history = s.history ∧
    (s.escalate k c).cellPort = s.cellPort ∧
    (s.escalate k c).drivePort = s.drivePort ∧
    (s.escalate k c).timer = s.timer ∧
    (s.escalate k c).images = s.images ∧
    (s.escalate k c).calibration = s.calibration ∧
    (s.escalate k c).service = s.service ∧
    (s.escalate k c).draws = s.draws ∧
    (s.escalate k c).pending = s.pending := by
  simp [State.escalate]

@[simp] theorem State.setExclusion_frame (s : State) (k : FaultKind) (c : Chan) :
    (s.setExclusion k c).powered = s.powered ∧
    (s.setExclusion k c).resetHeld = s.resetHeld ∧
    (s.setExclusion k c).estopInput = s.estopInput ∧
    (s.setExclusion k c).setupInput = s.setupInput ∧
    (s.setExclusion k c).clock = s.clock ∧
    (s.setExclusion k c).acq = s.acq ∧
    (s.setExclusion k c).window = s.window ∧
    (s.setExclusion k c).groupRef = s.groupRef ∧
    (s.setExclusion k c).rollerRef = s.rollerRef ∧
    (s.setExclusion k c).coupling = s.coupling ∧
    (s.setExclusion k c).torque = s.torque ∧
    (s.setExclusion k c).composer = s.composer ∧
    (s.setExclusion k c).monitor = s.monitor ∧
    (s.setExclusion k c).history = s.history ∧
    (s.setExclusion k c).cellPort = s.cellPort ∧
    (s.setExclusion k c).drivePort = s.drivePort ∧
    (s.setExclusion k c).timer = s.timer ∧
    (s.setExclusion k c).images = s.images ∧
    (s.setExclusion k c).calibration = s.calibration ∧
    (s.setExclusion k c).service = s.service ∧
    (s.setExclusion k c).draws = s.draws ∧
    (s.setExclusion k c).pending = s.pending := by
  unfold State.setExclusion; split <;> simp

@[simp] theorem State.offerTrigger_frame (s : State) (k : FaultKind) :
    (s.offerTrigger k).powered = s.powered ∧
    (s.offerTrigger k).resetHeld = s.resetHeld ∧
    (s.offerTrigger k).estopInput = s.estopInput ∧
    (s.offerTrigger k).setupInput = s.setupInput ∧
    (s.offerTrigger k).clock = s.clock ∧
    (s.offerTrigger k).acq = s.acq ∧
    (s.offerTrigger k).window = s.window ∧
    (s.offerTrigger k).groupRef = s.groupRef ∧
    (s.offerTrigger k).rollerRef = s.rollerRef ∧
    (s.offerTrigger k).coupling = s.coupling ∧
    (s.offerTrigger k).torque = s.torque ∧
    (s.offerTrigger k).composer = s.composer ∧
    (s.offerTrigger k).monitor = s.monitor ∧
    (s.offerTrigger k).reaction = s.reaction ∧
    (s.offerTrigger k).cellPort = s.cellPort ∧
    (s.offerTrigger k).drivePort = s.drivePort ∧
    (s.offerTrigger k).timer = s.timer ∧
    (s.offerTrigger k).images = s.images ∧
    (s.offerTrigger k).calibration = s.calibration ∧
    (s.offerTrigger k).service = s.service ∧
    (s.offerTrigger k).draws = s.draws ∧
    (s.offerTrigger k).pending = s.pending := by
  unfold State.offerTrigger; split <;> simp

@[simp] theorem State.occurrence_frame (s : State) (k : FaultKind) (c : Chan) :
    (s.occurrence k c).powered = s.powered ∧
    (s.occurrence k c).resetHeld = s.resetHeld ∧
    (s.occurrence k c).estopInput = s.estopInput ∧
    (s.occurrence k c).setupInput = s.setupInput ∧
    (s.occurrence k c).clock = s.clock ∧
    (s.occurrence k c).acq = s.acq ∧
    (s.occurrence k c).window = s.window ∧
    (s.occurrence k c).groupRef = s.groupRef ∧
    (s.occurrence k c).rollerRef = s.rollerRef ∧
    (s.occurrence k c).torque = s.torque ∧
    (s.occurrence k c).composer = s.composer ∧
    (s.occurrence k c).monitor = s.monitor ∧
    (s.occurrence k c).cellPort = s.cellPort ∧
    (s.occurrence k c).drivePort = s.drivePort ∧
    (s.occurrence k c).timer = s.timer ∧
    (s.occurrence k c).images = s.images ∧
    (s.occurrence k c).calibration = s.calibration ∧
    (s.occurrence k c).service = s.service ∧
    (s.occurrence k c).draws = s.draws ∧
    (s.occurrence k c).pending = s.pending := by
  simp [State.occurrence]

@[simp] theorem State.causeEnds_frame (s : State) (k : FaultKind) (c : Chan) :
    (s.causeEnds k c).powered = s.powered ∧
    (s.causeEnds k c).resetHeld = s.resetHeld ∧
    (s.causeEnds k c).estopInput = s.estopInput ∧
    (s.causeEnds k c).setupInput = s.setupInput ∧
    (s.causeEnds k c).clock = s.clock ∧
    (s.causeEnds k c).acq = s.acq ∧
    (s.causeEnds k c).window = s.window ∧
    (s.causeEnds k c).groupRef = s.groupRef ∧
    (s.causeEnds k c).rollerRef = s.rollerRef ∧
    (s.causeEnds k c).coupling = s.coupling ∧
    (s.causeEnds k c).torque = s.torque ∧
    (s.causeEnds k c).composer = s.composer ∧
    (s.causeEnds k c).monitor = s.monitor ∧
    (s.causeEnds k c).history = s.history ∧
    (s.causeEnds k c).cellPort = s.cellPort ∧
    (s.causeEnds k c).drivePort = s.drivePort ∧
    (s.causeEnds k c).timer = s.timer ∧
    (s.causeEnds k c).images = s.images ∧
    (s.causeEnds k c).calibration = s.calibration ∧
    (s.causeEnds k c).service = s.service ∧
    (s.causeEnds k c).draws = s.draws ∧
    (s.causeEnds k c).pending = s.pending := by
  simp [State.causeEnds]

@[simp] theorem State.takeReport_frame (s : State) (p : Report) :
    (s.takeReport p).powered = s.powered ∧
    (s.takeReport p).resetHeld = s.resetHeld ∧
    (s.takeReport p).estopInput = s.estopInput ∧
    (s.takeReport p).setupInput = s.setupInput ∧
    (s.takeReport p).clock = s.clock ∧
    (s.takeReport p).acq = s.acq ∧
    (s.takeReport p).window = s.window ∧
    (s.takeReport p).groupRef = s.groupRef ∧
    (s.takeReport p).rollerRef = s.rollerRef ∧
    (s.takeReport p).torque = s.torque ∧
    (s.takeReport p).composer = s.composer ∧
    (s.takeReport p).monitor = s.monitor ∧
    (s.takeReport p).cellPort = s.cellPort ∧
    (s.takeReport p).drivePort = s.drivePort ∧
    (s.takeReport p).timer = s.timer ∧
    (s.takeReport p).images = s.images ∧
    (s.takeReport p).calibration = s.calibration ∧
    (s.takeReport p).service = s.service ∧
    (s.takeReport p).draws = s.draws ∧
    (s.takeReport p).pending = s.pending := by
  cases p <;> simp [State.takeReport]

@[simp] theorem State.foldReports_frame (s : State) (ps : List Report) :
    (ps.foldl State.takeReport s).powered = s.powered ∧
    (ps.foldl State.takeReport s).resetHeld = s.resetHeld ∧
    (ps.foldl State.takeReport s).estopInput = s.estopInput ∧
    (ps.foldl State.takeReport s).setupInput = s.setupInput ∧
    (ps.foldl State.takeReport s).clock = s.clock ∧
    (ps.foldl State.takeReport s).acq = s.acq ∧
    (ps.foldl State.takeReport s).window = s.window ∧
    (ps.foldl State.takeReport s).groupRef = s.groupRef ∧
    (ps.foldl State.takeReport s).rollerRef = s.rollerRef ∧
    (ps.foldl State.takeReport s).torque = s.torque ∧
    (ps.foldl State.takeReport s).composer = s.composer ∧
    (ps.foldl State.takeReport s).monitor = s.monitor ∧
    (ps.foldl State.takeReport s).cellPort = s.cellPort ∧
    (ps.foldl State.takeReport s).drivePort = s.drivePort ∧
    (ps.foldl State.takeReport s).timer = s.timer ∧
    (ps.foldl State.takeReport s).images = s.images ∧
    (ps.foldl State.takeReport s).calibration = s.calibration ∧
    (ps.foldl State.takeReport s).service = s.service ∧
    (ps.foldl State.takeReport s).draws = s.draws ∧
    (ps.foldl State.takeReport s).pending = s.pending := by
  induction ps generalizing s with
  | nil => simp
  | cons p ps ih => simp [ih]

@[simp] theorem State.takeReports_frame (s : State) (ps : List Report) :
    (s.takeReports ps).powered = s.powered ∧
    (s.takeReports ps).resetHeld = s.resetHeld ∧
    (s.takeReports ps).estopInput = s.estopInput ∧
    (s.takeReports ps).setupInput = s.setupInput ∧
    (s.takeReports ps).clock = s.clock ∧
    (s.takeReports ps).acq = s.acq ∧
    (s.takeReports ps).window = s.window ∧
    (s.takeReports ps).groupRef = s.groupRef ∧
    (s.takeReports ps).rollerRef = s.rollerRef ∧
    (s.takeReports ps).torque = s.torque ∧
    (s.takeReports ps).composer = s.composer ∧
    (s.takeReports ps).monitor = s.monitor ∧
    (s.takeReports ps).cellPort = s.cellPort ∧
    (s.takeReports ps).drivePort = s.drivePort ∧
    (s.takeReports ps).timer = s.timer ∧
    (s.takeReports ps).images = s.images ∧
    (s.takeReports ps).calibration = s.calibration ∧
    (s.takeReports ps).service = s.service ∧
    (s.takeReports ps).pending = s.pending := by
  unfold State.takeReports; split <;> simp

@[simp] theorem State.transmit_frame (s : State) (o : Outgoing) (m : Nat) :
    (s.transmit o m).powered = s.powered ∧
    (s.transmit o m).resetHeld = s.resetHeld ∧
    (s.transmit o m).estopInput = s.estopInput ∧
    (s.transmit o m).setupInput = s.setupInput ∧
    (s.transmit o m).clock = s.clock ∧
    (s.transmit o m).groupRef = s.groupRef ∧
    (s.transmit o m).rollerRef = s.rollerRef ∧
    (s.transmit o m).coupling = s.coupling ∧
    (s.transmit o m).torque = s.torque ∧
    (s.transmit o m).composer = s.composer ∧
    (s.transmit o m).monitor = s.monitor ∧
    (s.transmit o m).reaction = s.reaction ∧
    (s.transmit o m).history = s.history ∧
    (s.transmit o m).cellPort = s.cellPort ∧
    (s.transmit o m).timer = s.timer ∧
    (s.transmit o m).images = s.images ∧
    (s.transmit o m).calibration = s.calibration ∧
    (s.transmit o m).service = s.service ∧
    (s.transmit o m).draws = s.draws ∧
    (s.transmit o m).pending = s.pending := by
  unfold State.transmit; split <;> simp

@[simp] theorem State.driveReady_frame (s : State) (o : Outgoing) (m : Nat) :
    (s.driveReady o m).powered = s.powered ∧
    (s.driveReady o m).resetHeld = s.resetHeld ∧
    (s.driveReady o m).estopInput = s.estopInput ∧
    (s.driveReady o m).setupInput = s.setupInput ∧
    (s.driveReady o m).clock = s.clock ∧
    (s.driveReady o m).groupRef = s.groupRef ∧
    (s.driveReady o m).rollerRef = s.rollerRef ∧
    (s.driveReady o m).coupling = s.coupling ∧
    (s.driveReady o m).torque = s.torque ∧
    (s.driveReady o m).composer = s.composer ∧
    (s.driveReady o m).monitor = s.monitor ∧
    (s.driveReady o m).reaction = s.reaction ∧
    (s.driveReady o m).history = s.history ∧
    (s.driveReady o m).cellPort = s.cellPort ∧
    (s.driveReady o m).timer = s.timer ∧
    (s.driveReady o m).images = s.images ∧
    (s.driveReady o m).calibration = s.calibration ∧
    (s.driveReady o m).service = s.service ∧
    (s.driveReady o m).draws = s.draws ∧
    (s.driveReady o m).pending = s.pending := by
  unfold State.driveReady; split <;> simp

@[simp] theorem State.endReset_frame (s : State) :
    s.endReset.powered = s.powered ∧
    s.endReset.resetHeld = s.resetHeld ∧
    s.endReset.estopInput = s.estopInput ∧
    s.endReset.setupInput = s.setupInput ∧
    s.endReset.clock = s.clock ∧
    s.endReset.acq = s.acq ∧
    s.endReset.window = s.window ∧
    s.endReset.groupRef = s.groupRef ∧
    s.endReset.rollerRef = s.rollerRef ∧
    s.endReset.torque = s.torque ∧
    s.endReset.composer = s.composer ∧
    s.endReset.monitor = s.monitor ∧
    s.endReset.cellPort = s.cellPort ∧
    s.endReset.drivePort = s.drivePort ∧
    s.endReset.timer = s.timer ∧
    s.endReset.calibration = s.calibration ∧
    s.endReset.service = s.service ∧
    s.endReset.draws = s.draws ∧
    s.endReset.pending = s.pending := by
  unfold State.endReset; dsimp only; split <;> simp

@[simp] theorem State.resetBlocks_frame (s : State) :
    s.resetBlocks.powered = s.powered ∧
    s.resetBlocks.resetHeld = s.resetHeld ∧
    s.resetBlocks.estopInput = s.estopInput ∧
    s.resetBlocks.setupInput = s.setupInput ∧
    s.resetBlocks.clock = s.clock ∧
    s.resetBlocks.draws = s.draws ∧
    s.resetBlocks.pending = s.pending := by
  simp [State.resetBlocks]

@[simp] theorem State.tick_frame (s : State) (t : Nat) :
    (s.tick t).powered = s.powered ∧
    (s.tick t).resetHeld = s.resetHeld ∧
    (s.tick t).estopInput = s.estopInput ∧
    (s.tick t).setupInput = s.setupInput ∧
    (s.tick t).acq = s.acq ∧
    (s.tick t).window = s.window ∧
    (s.tick t).groupRef = s.groupRef ∧
    (s.tick t).rollerRef = s.rollerRef ∧
    (s.tick t).coupling = s.coupling ∧
    (s.tick t).torque = s.torque ∧
    (s.tick t).composer = s.composer ∧
    (s.tick t).monitor = s.monitor ∧
    (s.tick t).reaction = s.reaction ∧
    (s.tick t).history = s.history ∧
    (s.tick t).cellPort = s.cellPort ∧
    (s.tick t).drivePort = s.drivePort ∧
    (s.tick t).timer = s.timer ∧
    (s.tick t).images = s.images ∧
    (s.tick t).calibration = s.calibration ∧
    (s.tick t).service = s.service ∧
    (s.tick t).draws = s.draws ∧
    (s.tick t).pending = s.pending := by
  simp [State.tick]

@[simp] theorem State.assertEstop_frame (s : State) :
    s.assertEstop.powered = s.powered ∧
    s.assertEstop.resetHeld = s.resetHeld ∧
    s.assertEstop.setupInput = s.setupInput ∧
    s.assertEstop.clock = s.clock ∧
    s.assertEstop.acq = s.acq ∧
    s.assertEstop.window = s.window ∧
    s.assertEstop.groupRef = s.groupRef ∧
    s.assertEstop.rollerRef = s.rollerRef ∧
    s.assertEstop.torque = s.torque ∧
    s.assertEstop.composer = s.composer ∧
    s.assertEstop.monitor = s.monitor ∧
    s.assertEstop.cellPort = s.cellPort ∧
    s.assertEstop.drivePort = s.drivePort ∧
    s.assertEstop.timer = s.timer ∧
    s.assertEstop.images = s.images ∧
    s.assertEstop.calibration = s.calibration ∧
    s.assertEstop.service = s.service ∧
    s.assertEstop.draws = s.draws ∧
    s.assertEstop.pending = s.pending := by
  unfold State.assertEstop; dsimp only; split <;> simp

@[simp] theorem State.releaseEstop_frame (s : State) :
    s.releaseEstop.powered = s.powered ∧
    s.releaseEstop.resetHeld = s.resetHeld ∧
    s.releaseEstop.setupInput = s.setupInput ∧
    s.releaseEstop.clock = s.clock ∧
    s.releaseEstop.acq = s.acq ∧
    s.releaseEstop.window = s.window ∧
    s.releaseEstop.groupRef = s.groupRef ∧
    s.releaseEstop.rollerRef = s.rollerRef ∧
    s.releaseEstop.coupling = s.coupling ∧
    s.releaseEstop.torque = s.torque ∧
    s.releaseEstop.composer = s.composer ∧
    s.releaseEstop.monitor = s.monitor ∧
    s.releaseEstop.history = s.history ∧
    s.releaseEstop.cellPort = s.cellPort ∧
    s.releaseEstop.drivePort = s.drivePort ∧
    s.releaseEstop.timer = s.timer ∧
    s.releaseEstop.images = s.images ∧
    s.releaseEstop.calibration = s.calibration ∧
    s.releaseEstop.service = s.service ∧
    s.releaseEstop.draws = s.draws ∧
    s.releaseEstop.pending = s.pending := by
  unfold State.releaseEstop; dsimp only; split <;> simp

@[simp] theorem State.changeSetup_frame (s : State) (b : Bool) :
    (s.changeSetup b).powered = s.powered ∧
    (s.changeSetup b).resetHeld = s.resetHeld ∧
    (s.changeSetup b).estopInput = s.estopInput ∧
    (s.changeSetup b).clock = s.clock ∧
    (s.changeSetup b).acq = s.acq ∧
    (s.changeSetup b).window = s.window ∧
    (s.changeSetup b).groupRef = s.groupRef ∧
    (s.changeSetup b).rollerRef = s.rollerRef ∧
    (s.changeSetup b).coupling = s.coupling ∧
    (s.changeSetup b).torque = s.torque ∧
    (s.changeSetup b).composer = s.composer ∧
    (s.changeSetup b).monitor = s.monitor ∧
    (s.changeSetup b).reaction = s.reaction ∧
    (s.changeSetup b).history = s.history ∧
    (s.changeSetup b).cellPort = s.cellPort ∧
    (s.changeSetup b).drivePort = s.drivePort ∧
    (s.changeSetup b).timer = s.timer ∧
    (s.changeSetup b).calibration = s.calibration ∧
    (s.changeSetup b).service = s.service ∧
    (s.changeSetup b).draws = s.draws ∧
    (s.changeSetup b).pending = s.pending := by
  unfold State.changeSetup; dsimp only; split <;> simp

end Sys2Proof.Machine
end

