-- ==== Sys2Proof/Laws/Cycle.lean ====
section
/-! SUPPORT. What the stages, the work at the head of the queue and the start of a computation leave unchanged. -/

namespace Sys2Proof.Machine

@[simp] theorem State.speedSettling_frame (s : State) (o : Option Image) (b : Bool) :
    (s.speedSettling o b).powered = s.powered ∧
    (s.speedSettling o b).resetHeld = s.resetHeld ∧
    (s.speedSettling o b).estopInput = s.estopInput ∧
    (s.speedSettling o b).setupInput = s.setupInput ∧
    (s.speedSettling o b).clock = s.clock ∧
    (s.speedSettling o b).groupRef = s.groupRef ∧
    (s.speedSettling o b).rollerRef = s.rollerRef ∧
    (s.speedSettling o b).torque = s.torque ∧
    (s.speedSettling o b).composer = s.composer ∧
    (s.speedSettling o b).monitor = s.monitor ∧
    (s.speedSettling o b).cellPort = s.cellPort ∧
    (s.speedSettling o b).drivePort = s.drivePort ∧
    (s.speedSettling o b).timer = s.timer ∧
    (s.speedSettling o b).images = s.images ∧
    (s.speedSettling o b).calibration = s.calibration ∧
    (s.speedSettling o b).service = s.service ∧
    (s.speedSettling o b).pending = s.pending := by
  simp [State.speedSettling]

@[simp] theorem State.referenceStage_frame (s : State) :
    s.referenceStage.powered = s.powered ∧
    s.referenceStage.resetHeld = s.resetHeld ∧
    s.referenceStage.estopInput = s.estopInput ∧
    s.referenceStage.setupInput = s.setupInput ∧
    s.referenceStage.clock = s.clock ∧
    s.referenceStage.acq = s.acq ∧
    s.referenceStage.window = s.window ∧
    s.referenceStage.torque = s.torque ∧
    s.referenceStage.composer = s.composer ∧
    s.referenceStage.monitor = s.monitor ∧
    s.referenceStage.cellPort = s.cellPort ∧
    s.referenceStage.drivePort = s.drivePort ∧
    s.referenceStage.timer = s.timer ∧
    s.referenceStage.images = s.images ∧
    s.referenceStage.calibration = s.calibration ∧
    s.referenceStage.service = s.service ∧
    s.referenceStage.pending = s.pending := by
  simp [State.referenceStage]

@[simp] theorem State.couplingStage_frame (s : State) :
    s.couplingStage.powered = s.powered ∧
    s.couplingStage.resetHeld = s.resetHeld ∧
    s.couplingStage.estopInput = s.estopInput ∧
    s.couplingStage.setupInput = s.setupInput ∧
    s.couplingStage.clock = s.clock ∧
    s.couplingStage.acq = s.acq ∧
    s.couplingStage.window = s.window ∧
    s.couplingStage.groupRef = s.groupRef ∧
    s.couplingStage.rollerRef = s.rollerRef ∧
    s.couplingStage.composer = s.composer ∧
    s.couplingStage.monitor = s.monitor ∧
    s.couplingStage.reaction = s.reaction ∧
    s.couplingStage.history = s.history ∧
    s.couplingStage.cellPort = s.cellPort ∧
    s.couplingStage.drivePort = s.drivePort ∧
    s.couplingStage.timer = s.timer ∧
    s.couplingStage.images = s.images ∧
    s.couplingStage.calibration = s.calibration ∧
    s.couplingStage.service = s.service ∧
    s.couplingStage.draws = s.draws ∧
    s.couplingStage.pending = s.pending := by
  simp [State.couplingStage]

@[simp] theorem State.compositionStage_frame (s : State) (o : Option Image) :
    (s.compositionStage o).powered = s.powered ∧
    (s.compositionStage o).resetHeld = s.resetHeld ∧
    (s.compositionStage o).estopInput = s.estopInput ∧
    (s.compositionStage o).setupInput = s.setupInput ∧
    (s.compositionStage o).clock = s.clock ∧
    (s.compositionStage o).acq = s.acq ∧
    (s.compositionStage o).window = s.window ∧
    (s.compositionStage o).groupRef = s.groupRef ∧
    (s.compositionStage o).rollerRef = s.rollerRef ∧
    (s.compositionStage o).monitor = s.monitor ∧
    (s.compositionStage o).cellPort = s.cellPort ∧
    (s.compositionStage o).drivePort = s.drivePort ∧
    (s.compositionStage o).timer = s.timer ∧
    (s.compositionStage o).images = s.images ∧
    (s.compositionStage o).calibration = s.calibration ∧
    (s.compositionStage o).service = s.service ∧
    (s.compositionStage o).pending = s.pending := by
  simp [State.compositionStage]

@[simp] theorem State.monitoringStage_frame (s : State) :
    s.monitoringStage.powered = s.powered ∧
    s.monitoringStage.resetHeld = s.resetHeld ∧
    s.monitoringStage.estopInput = s.estopInput ∧
    s.monitoringStage.setupInput = s.setupInput ∧
    s.monitoringStage.clock = s.clock ∧
    s.monitoringStage.acq = s.acq ∧
    s.monitoringStage.window = s.window ∧
    s.monitoringStage.groupRef = s.groupRef ∧
    s.monitoringStage.rollerRef = s.rollerRef ∧
    s.monitoringStage.torque = s.torque ∧
    s.monitoringStage.composer = s.composer ∧
    s.monitoringStage.cellPort = s.cellPort ∧
    s.monitoringStage.drivePort = s.drivePort ∧
    s.monitoringStage.timer = s.timer ∧
    s.monitoringStage.images = s.images ∧
    s.monitoringStage.calibration = s.calibration ∧
    s.monitoringStage.service = s.service ∧
    s.monitoringStage.pending = s.pending := by
  simp [State.monitoringStage]

@[simp] theorem State.historyStage_frame (s : State) :
    s.historyStage.powered = s.powered ∧
    s.historyStage.resetHeld = s.resetHeld ∧
    s.historyStage.estopInput = s.estopInput ∧
    s.historyStage.setupInput = s.setupInput ∧
    s.historyStage.clock = s.clock ∧
    s.historyStage.acq = s.acq ∧
    s.historyStage.window = s.window ∧
    s.historyStage.groupRef = s.groupRef ∧
    s.historyStage.rollerRef = s.rollerRef ∧
    s.historyStage.coupling = s.coupling ∧
    s.historyStage.torque = s.torque ∧
    s.historyStage.composer = s.composer ∧
    s.historyStage.monitor = s.monitor ∧
    s.historyStage.reaction = s.reaction ∧
    s.historyStage.cellPort = s.cellPort ∧
    s.historyStage.drivePort = s.drivePort ∧
    s.historyStage.timer = s.timer ∧
    s.historyStage.images = s.images ∧
    s.historyStage.calibration = s.calibration ∧
    s.historyStage.service = s.service ∧
    s.historyStage.draws = s.draws ∧
    s.historyStage.pending = s.pending := by
  simp [State.historyStage]

@[simp] theorem State.answer_frame (s : State) (p : Response) :
    (s.answer p).powered = s.powered ∧
    (s.answer p).resetHeld = s.resetHeld ∧
    (s.answer p).estopInput = s.estopInput ∧
    (s.answer p).setupInput = s.setupInput ∧
    (s.answer p).clock = s.clock ∧
    (s.answer p).acq = s.acq ∧
    (s.answer p).window = s.window ∧
    (s.answer p).groupRef = s.groupRef ∧
    (s.answer p).rollerRef = s.rollerRef ∧
    (s.answer p).coupling = s.coupling ∧
    (s.answer p).torque = s.torque ∧
    (s.answer p).composer = s.composer ∧
    (s.answer p).monitor = s.monitor ∧
    (s.answer p).reaction = s.reaction ∧
    (s.answer p).history = s.history ∧
    (s.answer p).cellPort = s.cellPort ∧
    (s.answer p).drivePort = s.drivePort ∧
    (s.answer p).timer = s.timer ∧
    (s.answer p).images = s.images ∧
    (s.answer p).calibration = s.calibration ∧
    (s.answer p).draws = s.draws ∧
    (s.answer p).pending = s.pending := by
  simp [State.answer]

@[simp] theorem State.answerHead_frame (s : State) (f : Request → Response) :
    (s.answerHead f).powered = s.powered ∧
    (s.answerHead f).resetHeld = s.resetHeld ∧
    (s.answerHead f).estopInput = s.estopInput ∧
    (s.answerHead f).setupInput = s.setupInput ∧
    (s.answerHead f).clock = s.clock ∧
    (s.answerHead f).acq = s.acq ∧
    (s.answerHead f).window = s.window ∧
    (s.answerHead f).groupRef = s.groupRef ∧
    (s.answerHead f).rollerRef = s.rollerRef ∧
    (s.answerHead f).coupling = s.coupling ∧
    (s.answerHead f).torque = s.torque ∧
    (s.answerHead f).composer = s.composer ∧
    (s.answerHead f).monitor = s.monitor ∧
    (s.answerHead f).reaction = s.reaction ∧
    (s.answerHead f).history = s.history ∧
    (s.answerHead f).cellPort = s.cellPort ∧
    (s.answerHead f).drivePort = s.drivePort ∧
    (s.answerHead f).timer = s.timer ∧
    (s.answerHead f).images = s.images ∧
    (s.answerHead f).calibration = s.calibration ∧
    (s.answerHead f).draws = s.draws ∧
    (s.answerHead f).pending = s.pending := by
  unfold State.answerHead; split <;> simp

@[simp] theorem State.performOpen_frame (s : State) (q : Request) :
    (s.performOpen q).powered = s.powered ∧
    (s.performOpen q).resetHeld = s.resetHeld ∧
    (s.performOpen q).estopInput = s.estopInput ∧
    (s.performOpen q).setupInput = s.setupInput ∧
    (s.performOpen q).clock = s.clock ∧
    (s.performOpen q).acq = s.acq ∧
    (s.performOpen q).window = s.window ∧
    (s.performOpen q).groupRef = s.groupRef ∧
    (s.performOpen q).rollerRef = s.rollerRef ∧
    (s.performOpen q).coupling = s.coupling ∧
    (s.performOpen q).torque = s.torque ∧
    (s.performOpen q).composer = s.composer ∧
    (s.performOpen q).monitor = s.monitor ∧
    (s.performOpen q).reaction = s.reaction ∧
    (s.performOpen q).history = s.history ∧
    (s.performOpen q).cellPort = s.cellPort ∧
    (s.performOpen q).drivePort = s.drivePort ∧
    (s.performOpen q).timer = s.timer ∧
    (s.performOpen q).calibration = s.calibration ∧
    (s.performOpen q).draws = s.draws ∧
    (s.performOpen q).pending = s.pending := by
  simp [State.performOpen]

@[simp] theorem State.performData_frame (s : State) (q : Request) :
    (s.performData q).powered = s.powered ∧
    (s.performData q).resetHeld = s.resetHeld ∧
    (s.performData q).estopInput = s.estopInput ∧
    (s.performData q).setupInput = s.setupInput ∧
    (s.performData q).clock = s.clock ∧
    (s.performData q).acq = s.acq ∧
    (s.performData q).window = s.window ∧
    (s.performData q).groupRef = s.groupRef ∧
    (s.performData q).rollerRef = s.rollerRef ∧
    (s.performData q).coupling = s.coupling ∧
    (s.performData q).torque = s.torque ∧
    (s.performData q).composer = s.composer ∧
    (s.performData q).monitor = s.monitor ∧
    (s.performData q).reaction = s.reaction ∧
    (s.performData q).history = s.history ∧
    (s.performData q).cellPort = s.cellPort ∧
    (s.performData q).drivePort = s.drivePort ∧
    (s.performData q).timer = s.timer ∧
    (s.performData q).calibration = s.calibration ∧
    (s.performData q).draws = s.draws ∧
    (s.performData q).pending = s.pending := by
  simp [State.performData]

@[simp] theorem State.performClose_frame (s : State) (q : Request) :
    (s.performClose q).powered = s.powered ∧
    (s.performClose q).resetHeld = s.resetHeld ∧
    (s.performClose q).estopInput = s.estopInput ∧
    (s.performClose q).setupInput = s.setupInput ∧
    (s.performClose q).clock = s.clock ∧
    (s.performClose q).acq = s.acq ∧
    (s.performClose q).window = s.window ∧
    (s.performClose q).groupRef = s.groupRef ∧
    (s.performClose q).rollerRef = s.rollerRef ∧
    (s.performClose q).coupling = s.coupling ∧
    (s.performClose q).torque = s.torque ∧
    (s.performClose q).composer = s.composer ∧
    (s.performClose q).monitor = s.monitor ∧
    (s.performClose q).reaction = s.reaction ∧
    (s.performClose q).history = s.history ∧
    (s.performClose q).cellPort = s.cellPort ∧
    (s.performClose q).drivePort = s.drivePort ∧
    (s.performClose q).timer = s.timer ∧
    (s.performClose q).calibration = s.calibration ∧
    (s.performClose q).draws = s.draws ∧
    (s.performClose q).pending = s.pending := by
  unfold State.performClose; split <;> simp

@[simp] theorem State.performCommit_frame (s : State) (q : Request) :
    (s.performCommit q).powered = s.powered ∧
    (s.performCommit q).resetHeld = s.resetHeld ∧
    (s.performCommit q).estopInput = s.estopInput ∧
    (s.performCommit q).setupInput = s.setupInput ∧
    (s.performCommit q).clock = s.clock ∧
    (s.performCommit q).acq = s.acq ∧
    (s.performCommit q).window = s.window ∧
    (s.performCommit q).groupRef = s.groupRef ∧
    (s.performCommit q).rollerRef = s.rollerRef ∧
    (s.performCommit q).coupling = s.coupling ∧
    (s.performCommit q).torque = s.torque ∧
    (s.performCommit q).composer = s.composer ∧
    (s.performCommit q).monitor = s.monitor ∧
    (s.performCommit q).reaction = s.reaction ∧
    (s.performCommit q).history = s.history ∧
    (s.performCommit q).cellPort = s.cellPort ∧
    (s.performCommit q).drivePort = s.drivePort ∧
    (s.performCommit q).timer = s.timer ∧
    (s.performCommit q).calibration = s.calibration ∧
    (s.performCommit q).draws = s.draws ∧
    (s.performCommit q).pending = s.pending := by
  unfold State.performCommit; split <;> simp

@[simp] theorem State.performLiveWrite_frame (s : State) (q : Request) :
    (s.performLiveWrite q).powered = s.powered ∧
    (s.performLiveWrite q).resetHeld = s.resetHeld ∧
    (s.performLiveWrite q).estopInput = s.estopInput ∧
    (s.performLiveWrite q).setupInput = s.setupInput ∧
    (s.performLiveWrite q).clock = s.clock ∧
    (s.performLiveWrite q).acq = s.acq ∧
    (s.performLiveWrite q).window = s.window ∧
    (s.performLiveWrite q).groupRef = s.groupRef ∧
    (s.performLiveWrite q).rollerRef = s.rollerRef ∧
    (s.performLiveWrite q).coupling = s.coupling ∧
    (s.performLiveWrite q).torque = s.torque ∧
    (s.performLiveWrite q).composer = s.composer ∧
    (s.performLiveWrite q).monitor = s.monitor ∧
    (s.performLiveWrite q).reaction = s.reaction ∧
    (s.performLiveWrite q).history = s.history ∧
    (s.performLiveWrite q).cellPort = s.cellPort ∧
    (s.performLiveWrite q).drivePort = s.drivePort ∧
    (s.performLiveWrite q).timer = s.timer ∧
    (s.performLiveWrite q).calibration = s.calibration ∧
    (s.performLiveWrite q).draws = s.draws ∧
    (s.performLiveWrite q).pending = s.pending := by
  unfold State.performLiveWrite; dsimp only; split <;> (try split) <;> (try split) <;> simp

@[simp] theorem State.performWindow_frame (s : State) (q : Request) :
    (s.performWindow q).powered = s.powered ∧
    (s.performWindow q).resetHeld = s.resetHeld ∧
    (s.performWindow q).estopInput = s.estopInput ∧
    (s.performWindow q).setupInput = s.setupInput ∧
    (s.performWindow q).clock = s.clock ∧
    (s.performWindow q).acq = s.acq ∧
    (s.performWindow q).window = s.window ∧
    (s.performWindow q).groupRef = s.groupRef ∧
    (s.performWindow q).rollerRef = s.rollerRef ∧
    (s.performWindow q).coupling = s.coupling ∧
    (s.performWindow q).torque = s.torque ∧
    (s.performWindow q).composer = s.composer ∧
    (s.performWindow q).monitor = s.monitor ∧
    (s.performWindow q).reaction = s.reaction ∧
    (s.performWindow q).history = s.history ∧
    (s.performWindow q).cellPort = s.cellPort ∧
    (s.performWindow q).drivePort = s.drivePort ∧
    (s.performWindow q).timer = s.timer ∧
    (s.performWindow q).calibration = s.calibration ∧
    (s.performWindow q).draws = s.draws ∧
    (s.performWindow q).pending = s.pending := by
  unfold State.performWindow; split <;> (try split) <;> simp

@[simp] theorem State.performStore_frame (s : State) (q : Request) :
    (s.performStore q).powered = s.powered ∧
    (s.performStore q).resetHeld = s.resetHeld ∧
    (s.performStore q).estopInput = s.estopInput ∧
    (s.performStore q).setupInput = s.setupInput ∧
    (s.performStore q).clock = s.clock ∧
    (s.performStore q).acq = s.acq ∧
    (s.performStore q).window = s.window ∧
    (s.performStore q).groupRef = s.groupRef ∧
    (s.performStore q).rollerRef = s.rollerRef ∧
    (s.performStore q).coupling = s.coupling ∧
    (s.performStore q).torque = s.torque ∧
    (s.performStore q).composer = s.composer ∧
    (s.performStore q).monitor = s.monitor ∧
    (s.performStore q).reaction = s.reaction ∧
    (s.performStore q).history = s.history ∧
    (s.performStore q).cellPort = s.cellPort ∧
    (s.performStore q).drivePort = s.drivePort ∧
    (s.performStore q).timer = s.timer ∧
    (s.performStore q).calibration = s.calibration ∧
    (s.performStore q).pending = s.pending := by
  unfold State.performStore; split <;> simp

@[simp] theorem State.performRestart_frame (s : State) (q : Request) :
    (s.performRestart q).powered = s.powered ∧
    (s.performRestart q).resetHeld = s.resetHeld ∧
    (s.performRestart q).estopInput = s.estopInput ∧
    (s.performRestart q).setupInput = s.setupInput ∧
    (s.performRestart q).clock = s.clock ∧
    (s.performRestart q).acq = s.acq ∧
    (s.performRestart q).window = s.window ∧
    (s.performRestart q).groupRef = s.groupRef ∧
    (s.performRestart q).rollerRef = s.rollerRef ∧
    (s.performRestart q).coupling = s.coupling ∧
    (s.performRestart q).torque = s.torque ∧
    (s.performRestart q).composer = s.composer ∧
    (s.performRestart q).monitor = s.monitor ∧
    (s.performRestart q).reaction = s.reaction ∧
    (s.performRestart q).history = s.history ∧
    (s.performRestart q).cellPort = s.cellPort ∧
    (s.performRestart q).drivePort = s.drivePort ∧
    (s.performRestart q).timer = s.timer ∧
    (s.performRestart q).images = s.images ∧
    (s.performRestart q).calibration = s.calibration ∧
    (s.performRestart q).draws = s.draws ∧
    (s.performRestart q).pending = s.pending := by
  unfold State.performRestart; split <;> simp

@[simp] theorem State.performControl_frame (s : State) (q : Request) :
    (s.performControl q).powered = s.powered ∧
    (s.performControl q).resetHeld = s.resetHeld ∧
    (s.performControl q).estopInput = s.estopInput ∧
    (s.performControl q).setupInput = s.setupInput ∧
    (s.performControl q).clock = s.clock ∧
    (s.performControl q).acq = s.acq ∧
    (s.performControl q).window = s.window ∧
    (s.performControl q).groupRef = s.groupRef ∧
    (s.performControl q).rollerRef = s.rollerRef ∧
    (s.performControl q).coupling = s.coupling ∧
    (s.performControl q).torque = s.torque ∧
    (s.performControl q).composer = s.composer ∧
    (s.performControl q).monitor = s.monitor ∧
    (s.performControl q).reaction = s.reaction ∧
    (s.performControl q).history = s.history ∧
    (s.performControl q).cellPort = s.cellPort ∧
    (s.performControl q).drivePort = s.drivePort ∧
    (s.performControl q).timer = s.timer ∧
    (s.performControl q).images = s.images ∧
    (s.performControl q).calibration = s.calibration ∧
    (s.performControl q).draws = s.draws ∧
    (s.performControl q).pending = s.pending := by
  unfold State.performControl; split <;> simp

@[simp] theorem State.performKind_frame (s : State) (q : Request) :
    (s.performKind q).powered = s.powered ∧
    (s.performKind q).resetHeld = s.resetHeld ∧
    (s.performKind q).estopInput = s.estopInput ∧
    (s.performKind q).setupInput = s.setupInput ∧
    (s.performKind q).clock = s.clock ∧
    (s.performKind q).acq = s.acq ∧
    (s.performKind q).window = s.window ∧
    (s.performKind q).groupRef = s.groupRef ∧
    (s.performKind q).rollerRef = s.rollerRef ∧
    (s.performKind q).coupling = s.coupling ∧
    (s.performKind q).torque = s.torque ∧
    (s.performKind q).composer = s.composer ∧
    (s.performKind q).monitor = s.monitor ∧
    (s.performKind q).reaction = s.reaction ∧
    (s.performKind q).history = s.history ∧
    (s.performKind q).cellPort = s.cellPort ∧
    (s.performKind q).drivePort = s.drivePort ∧
    (s.performKind q).timer = s.timer ∧
    (s.performKind q).calibration = s.calibration ∧
    (s.performKind q).pending = s.pending := by
  unfold State.performKind; split <;> simp

@[simp] theorem State.performHead_frame (s : State) :
    s.performHead.powered = s.powered ∧
    s.performHead.resetHeld = s.resetHeld ∧
    s.performHead.estopInput = s.estopInput ∧
    s.performHead.setupInput = s.setupInput ∧
    s.performHead.clock = s.clock ∧
    s.performHead.acq = s.acq ∧
    s.performHead.window = s.window ∧
    s.performHead.groupRef = s.groupRef ∧
    s.performHead.rollerRef = s.rollerRef ∧
    s.performHead.coupling = s.coupling ∧
    s.performHead.torque = s.torque ∧
    s.performHead.composer = s.composer ∧
    s.performHead.monitor = s.monitor ∧
    s.performHead.reaction = s.reaction ∧
    s.performHead.history = s.history ∧
    s.performHead.cellPort = s.cellPort ∧
    s.performHead.drivePort = s.drivePort ∧
    s.performHead.timer = s.timer ∧
    s.performHead.calibration = s.calibration ∧
    s.performHead.pending = s.pending := by
  unfold State.performHead; split <;> simp

@[simp] theorem State.overrunRequest_frame (s : State) (q : Request) :
    (s.overrunRequest q).powered = s.powered ∧
    (s.overrunRequest q).resetHeld = s.resetHeld ∧
    (s.overrunRequest q).estopInput = s.estopInput ∧
    (s.overrunRequest q).setupInput = s.setupInput ∧
    (s.overrunRequest q).clock = s.clock ∧
    (s.overrunRequest q).acq = s.acq ∧
    (s.overrunRequest q).window = s.window ∧
    (s.overrunRequest q).groupRef = s.groupRef ∧
    (s.overrunRequest q).rollerRef = s.rollerRef ∧
    (s.overrunRequest q).coupling = s.coupling ∧
    (s.overrunRequest q).torque = s.torque ∧
    (s.overrunRequest q).composer = s.composer ∧
    (s.overrunRequest q).monitor = s.monitor ∧
    (s.overrunRequest q).reaction = s.reaction ∧
    (s.overrunRequest q).history = s.history ∧
    (s.overrunRequest q).cellPort = s.cellPort ∧
    (s.overrunRequest q).drivePort = s.drivePort ∧
    (s.overrunRequest q).timer = s.timer ∧
    (s.overrunRequest q).images = s.images ∧
    (s.overrunRequest q).calibration = s.calibration ∧
    (s.overrunRequest q).draws = s.draws ∧
    (s.overrunRequest q).pending = s.pending := by
  simp [State.overrunRequest]

@[simp] theorem State.appendRequest_frame (s : State) (q : Request) :
    (s.appendRequest q).powered = s.powered ∧
    (s.appendRequest q).resetHeld = s.resetHeld ∧
    (s.appendRequest q).estopInput = s.estopInput ∧
    (s.appendRequest q).setupInput = s.setupInput ∧
    (s.appendRequest q).clock = s.clock ∧
    (s.appendRequest q).acq = s.acq ∧
    (s.appendRequest q).window = s.window ∧
    (s.appendRequest q).groupRef = s.groupRef ∧
    (s.appendRequest q).rollerRef = s.rollerRef ∧
    (s.appendRequest q).coupling = s.coupling ∧
    (s.appendRequest q).torque = s.torque ∧
    (s.appendRequest q).composer = s.composer ∧
    (s.appendRequest q).monitor = s.monitor ∧
    (s.appendRequest q).reaction = s.reaction ∧
    (s.appendRequest q).history = s.history ∧
    (s.appendRequest q).cellPort = s.cellPort ∧
    (s.appendRequest q).drivePort = s.drivePort ∧
    (s.appendRequest q).timer = s.timer ∧
    (s.appendRequest q).images = s.images ∧
    (s.appendRequest q).calibration = s.calibration ∧
    (s.appendRequest q).draws = s.draws ∧
    (s.appendRequest q).pending = s.pending := by
  simp [State.appendRequest]

@[simp] theorem State.handOver_frame (s : State) (q : Request) :
    (s.handOver q).powered = s.powered ∧
    (s.handOver q).resetHeld = s.resetHeld ∧
    (s.handOver q).estopInput = s.estopInput ∧
    (s.handOver q).setupInput = s.setupInput ∧
    (s.handOver q).clock = s.clock ∧
    (s.handOver q).acq = s.acq ∧
    (s.handOver q).window = s.window ∧
    (s.handOver q).groupRef = s.groupRef ∧
    (s.handOver q).rollerRef = s.rollerRef ∧
    (s.handOver q).coupling = s.coupling ∧
    (s.handOver q).torque = s.torque ∧
    (s.handOver q).composer = s.composer ∧
    (s.handOver q).monitor = s.monitor ∧
    (s.handOver q).reaction = s.reaction ∧
    (s.handOver q).history = s.history ∧
    (s.handOver q).cellPort = s.cellPort ∧
    (s.handOver q).drivePort = s.drivePort ∧
    (s.handOver q).timer = s.timer ∧
    (s.handOver q).calibration = s.calibration ∧
    (s.handOver q).pending = s.pending := by
  unfold State.handOver; split <;> (try split) <;> simp

@[simp] theorem State.carried_frame (s : State) :
    s.carried.powered = s.powered ∧
    s.carried.resetHeld = s.resetHeld ∧
    s.carried.estopInput = s.estopInput ∧
    s.carried.setupInput = s.setupInput ∧
    s.carried.clock = s.clock ∧
    s.carried.acq = s.acq ∧
    s.carried.window = s.window ∧
    s.carried.groupRef = s.groupRef ∧
    s.carried.rollerRef = s.rollerRef ∧
    s.carried.coupling = s.coupling ∧
    s.carried.torque = s.torque ∧
    s.carried.composer = s.composer ∧
    s.carried.monitor = s.monitor ∧
    s.carried.reaction = s.reaction ∧
    s.carried.history = s.history ∧
    s.carried.cellPort = s.cellPort ∧
    s.carried.drivePort = s.drivePort ∧
    s.carried.timer = s.timer ∧
    s.carried.images = s.images ∧
    s.carried.calibration = s.calibration ∧
    s.carried.draws = s.draws ∧
    s.carried.pending = s.pending := by
  simp [State.carried]

@[simp] theorem State.advanceQueue_frame (s : State) :
    s.advanceQueue.powered = s.powered ∧
    s.advanceQueue.resetHeld = s.resetHeld ∧
    s.advanceQueue.estopInput = s.estopInput ∧
    s.advanceQueue.setupInput = s.setupInput ∧
    s.advanceQueue.clock = s.clock ∧
    s.advanceQueue.acq = s.acq ∧
    s.advanceQueue.window = s.window ∧
    s.advanceQueue.groupRef = s.groupRef ∧
    s.advanceQueue.rollerRef = s.rollerRef ∧
    s.advanceQueue.coupling = s.coupling ∧
    s.advanceQueue.torque = s.torque ∧
    s.advanceQueue.composer = s.composer ∧
    s.advanceQueue.monitor = s.monitor ∧
    s.advanceQueue.reaction = s.reaction ∧
    s.advanceQueue.history = s.history ∧
    s.advanceQueue.cellPort = s.cellPort ∧
    s.advanceQueue.drivePort = s.drivePort ∧
    s.advanceQueue.timer = s.timer ∧
    s.advanceQueue.calibration = s.calibration ∧
    s.advanceQueue.pending = s.pending := by
  simp [State.advanceQueue]

@[simp] theorem State.withCheck_frame (s : State) (c : CommitState) :
    (s.withCheck c).powered = s.powered ∧
    (s.withCheck c).resetHeld = s.resetHeld ∧
    (s.withCheck c).estopInput = s.estopInput ∧
    (s.withCheck c).setupInput = s.setupInput ∧
    (s.withCheck c).clock = s.clock ∧
    (s.withCheck c).acq = s.acq ∧
    (s.withCheck c).window = s.window ∧
    (s.withCheck c).groupRef = s.groupRef ∧
    (s.withCheck c).rollerRef = s.rollerRef ∧
    (s.withCheck c).coupling = s.coupling ∧
    (s.withCheck c).torque = s.torque ∧
    (s.withCheck c).composer = s.composer ∧
    (s.withCheck c).monitor = s.monitor ∧
    (s.withCheck c).reaction = s.reaction ∧
    (s.withCheck c).history = s.history ∧
    (s.withCheck c).cellPort = s.cellPort ∧
    (s.withCheck c).drivePort = s.drivePort ∧
    (s.withCheck c).timer = s.timer ∧
    (s.withCheck c).calibration = s.calibration ∧
    (s.withCheck c).service = s.service ∧
    (s.withCheck c).draws = s.draws ∧
    (s.withCheck c).pending = s.pending := by
  simp [State.withCheck]

@[simp] theorem State.endCheck_frame (s : State) :
    s.endCheck.powered = s.powered ∧
    s.endCheck.resetHeld = s.resetHeld ∧
    s.endCheck.estopInput = s.estopInput ∧
    s.endCheck.setupInput = s.setupInput ∧
    s.endCheck.clock = s.clock ∧
    s.endCheck.acq = s.acq ∧
    s.endCheck.window = s.window ∧
    s.endCheck.groupRef = s.groupRef ∧
    s.endCheck.rollerRef = s.rollerRef ∧
    s.endCheck.coupling = s.coupling ∧
    s.endCheck.torque = s.torque ∧
    s.endCheck.composer = s.composer ∧
    s.endCheck.monitor = s.monitor ∧
    s.endCheck.reaction = s.reaction ∧
    s.endCheck.history = s.history ∧
    s.endCheck.cellPort = s.cellPort ∧
    s.endCheck.drivePort = s.drivePort ∧
    s.endCheck.timer = s.timer ∧
    s.endCheck.calibration = s.calibration ∧
    s.endCheck.draws = s.draws ∧
    s.endCheck.pending = s.pending := by
  unfold State.endCheck; dsimp only; split <;> (try split) <;> simp

@[simp] theorem State.checkEnds_frame (s : State) :
    s.checkEnds.powered = s.powered ∧
    s.checkEnds.resetHeld = s.resetHeld ∧
    s.checkEnds.estopInput = s.estopInput ∧
    s.checkEnds.setupInput = s.setupInput ∧
    s.checkEnds.clock = s.clock ∧
    s.checkEnds.acq = s.acq ∧
    s.checkEnds.window = s.window ∧
    s.checkEnds.groupRef = s.groupRef ∧
    s.checkEnds.rollerRef = s.rollerRef ∧
    s.checkEnds.coupling = s.coupling ∧
    s.checkEnds.torque = s.torque ∧
    s.checkEnds.composer = s.composer ∧
    s.checkEnds.monitor = s.monitor ∧
    s.checkEnds.reaction = s.reaction ∧
    s.checkEnds.history = s.history ∧
    s.checkEnds.cellPort = s.cellPort ∧
    s.checkEnds.drivePort = s.drivePort ∧
    s.checkEnds.timer = s.timer ∧
    s.checkEnds.calibration = s.calibration ∧
    s.checkEnds.draws = s.draws ∧
    s.checkEnds.pending = s.pending := by
  unfold State.checkEnds; split <;> simp

@[simp] theorem State.commitCopy_frame (s : State) :
    s.commitCopy.powered = s.powered ∧
    s.commitCopy.resetHeld = s.resetHeld ∧
    s.commitCopy.estopInput = s.estopInput ∧
    s.commitCopy.setupInput = s.setupInput ∧
    s.commitCopy.clock = s.clock ∧
    s.commitCopy.acq = s.acq ∧
    s.commitCopy.window = s.window ∧
    s.commitCopy.groupRef = s.groupRef ∧
    s.commitCopy.rollerRef = s.rollerRef ∧
    s.commitCopy.coupling = s.coupling ∧
    s.commitCopy.torque = s.torque ∧
    s.commitCopy.composer = s.composer ∧
    s.commitCopy.monitor = s.monitor ∧
    s.commitCopy.reaction = s.reaction ∧
    s.commitCopy.history = s.history ∧
    s.commitCopy.cellPort = s.cellPort ∧
    s.commitCopy.drivePort = s.drivePort ∧
    s.commitCopy.timer = s.timer ∧
    s.commitCopy.calibration = s.calibration ∧
    s.commitCopy.draws = s.draws ∧
    s.commitCopy.pending = s.pending := by
  unfold State.commitCopy; split <;> simp

@[simp] theorem State.applyPendingLive_frame (s : State) :
    s.applyPendingLive.powered = s.powered ∧
    s.applyPendingLive.resetHeld = s.resetHeld ∧
    s.applyPendingLive.estopInput = s.estopInput ∧
    s.applyPendingLive.setupInput = s.setupInput ∧
    s.applyPendingLive.clock = s.clock ∧
    s.applyPendingLive.acq = s.acq ∧
    s.applyPendingLive.window = s.window ∧
    s.applyPendingLive.groupRef = s.groupRef ∧
    s.applyPendingLive.rollerRef = s.rollerRef ∧
    s.applyPendingLive.coupling = s.coupling ∧
    s.applyPendingLive.torque = s.torque ∧
    s.applyPendingLive.composer = s.composer ∧
    s.applyPendingLive.monitor = s.monitor ∧
    s.applyPendingLive.reaction = s.reaction ∧
    s.applyPendingLive.history = s.history ∧
    s.applyPendingLive.cellPort = s.cellPort ∧
    s.applyPendingLive.drivePort = s.drivePort ∧
    s.applyPendingLive.timer = s.timer ∧
    s.applyPendingLive.calibration = s.calibration ∧
    s.applyPendingLive.service = s.service ∧
    s.applyPendingLive.draws = s.draws ∧
    s.applyPendingLive.pending = s.pending := by
  simp [State.applyPendingLive]

@[simp] theorem State.endWrite_frame (s : State) (w : CalibrationWrite) :
    (s.endWrite w).powered = s.powered ∧
    (s.endWrite w).resetHeld = s.resetHeld ∧
    (s.endWrite w).estopInput = s.estopInput ∧
    (s.endWrite w).setupInput = s.setupInput ∧
    (s.endWrite w).clock = s.clock ∧
    (s.endWrite w).acq = s.acq ∧
    (s.endWrite w).window = s.window ∧
    (s.endWrite w).groupRef = s.groupRef ∧
    (s.endWrite w).rollerRef = s.rollerRef ∧
    (s.endWrite w).coupling = s.coupling ∧
    (s.endWrite w).torque = s.torque ∧
    (s.endWrite w).composer = s.composer ∧
    (s.endWrite w).monitor = s.monitor ∧
    (s.endWrite w).reaction = s.reaction ∧
    (s.endWrite w).history = s.history ∧
    (s.endWrite w).cellPort = s.cellPort ∧
    (s.endWrite w).drivePort = s.drivePort ∧
    (s.endWrite w).timer = s.timer ∧
    (s.endWrite w).draws = s.draws ∧
    (s.endWrite w).pending = s.pending := by
  simp [State.endWrite]

@[simp] theorem State.writeEnds_frame (s : State) :
    s.writeEnds.powered = s.powered ∧
    s.writeEnds.resetHeld = s.resetHeld ∧
    s.writeEnds.estopInput = s.estopInput ∧
    s.writeEnds.setupInput = s.setupInput ∧
    s.writeEnds.clock = s.clock ∧
    s.writeEnds.acq = s.acq ∧
    s.writeEnds.window = s.window ∧
    s.writeEnds.groupRef = s.groupRef ∧
    s.writeEnds.rollerRef = s.rollerRef ∧
    s.writeEnds.coupling = s.coupling ∧
    s.writeEnds.torque = s.torque ∧
    s.writeEnds.composer = s.composer ∧
    s.writeEnds.monitor = s.monitor ∧
    s.writeEnds.reaction = s.reaction ∧
    s.writeEnds.history = s.history ∧
    s.writeEnds.cellPort = s.cellPort ∧
    s.writeEnds.drivePort = s.drivePort ∧
    s.writeEnds.timer = s.timer ∧
    s.writeEnds.draws = s.draws ∧
    s.writeEnds.pending = s.pending := by
  unfold State.writeEnds; split <;> (try split) <;> simp

@[simp] theorem State.steerGroups_frame (s : State) (w : Word) :
    (s.steerGroups w).powered = s.powered ∧
    (s.steerGroups w).resetHeld = s.resetHeld ∧
    (s.steerGroups w).estopInput = s.estopInput ∧
    (s.steerGroups w).setupInput = s.setupInput ∧
    (s.steerGroups w).clock = s.clock ∧
    (s.steerGroups w).acq = s.acq ∧
    (s.steerGroups w).window = s.window ∧
    (s.steerGroups w).composer = s.composer ∧
    (s.steerGroups w).monitor = s.monitor ∧
    (s.steerGroups w).reaction = s.reaction ∧
    (s.steerGroups w).history = s.history ∧
    (s.steerGroups w).cellPort = s.cellPort ∧
    (s.steerGroups w).drivePort = s.drivePort ∧
    (s.steerGroups w).timer = s.timer ∧
    (s.steerGroups w).images = s.images ∧
    (s.steerGroups w).calibration = s.calibration ∧
    (s.steerGroups w).service = s.service ∧
    (s.steerGroups w).draws = s.draws ∧
    (s.steerGroups w).pending = s.pending := by
  simp [State.steerGroups]

@[simp] theorem State.detachCleared_frame (s : State) (w : Word) :
    (s.detachCleared w).powered = s.powered ∧
    (s.detachCleared w).resetHeld = s.resetHeld ∧
    (s.detachCleared w).estopInput = s.estopInput ∧
    (s.detachCleared w).setupInput = s.setupInput ∧
    (s.detachCleared w).clock = s.clock ∧
    (s.detachCleared w).acq = s.acq ∧
    (s.detachCleared w).window = s.window ∧
    (s.detachCleared w).groupRef = s.groupRef ∧
    (s.detachCleared w).rollerRef = s.rollerRef ∧
    (s.detachCleared w).torque = s.torque ∧
    (s.detachCleared w).composer = s.composer ∧
    (s.detachCleared w).monitor = s.monitor ∧
    (s.detachCleared w).reaction = s.reaction ∧
    (s.detachCleared w).history = s.history ∧
    (s.detachCleared w).cellPort = s.cellPort ∧
    (s.detachCleared w).drivePort = s.drivePort ∧
    (s.detachCleared w).timer = s.timer ∧
    (s.detachCleared w).images = s.images ∧
    (s.detachCleared w).calibration = s.calibration ∧
    (s.detachCleared w).service = s.service ∧
    (s.detachCleared w).draws = s.draws ∧
    (s.detachCleared w).pending = s.pending := by
  simp [State.detachCleared]

@[simp] theorem State.clearFaults_frame (s : State) (w : Word) :
    (s.clearFaults w).powered = s.powered ∧
    (s.clearFaults w).resetHeld = s.resetHeld ∧
    (s.clearFaults w).estopInput = s.estopInput ∧
    (s.clearFaults w).setupInput = s.setupInput ∧
    (s.clearFaults w).clock = s.clock ∧
    (s.clearFaults w).acq = s.acq ∧
    (s.clearFaults w).window = s.window ∧
    (s.clearFaults w).groupRef = s.groupRef ∧
    (s.clearFaults w).rollerRef = s.rollerRef ∧
    (s.clearFaults w).torque = s.torque ∧
    (s.clearFaults w).composer = s.composer ∧
    (s.clearFaults w).monitor = s.monitor ∧
    (s.clearFaults w).history = s.history ∧
    (s.clearFaults w).cellPort = s.cellPort ∧
    (s.clearFaults w).drivePort = s.drivePort ∧
    (s.clearFaults w).timer = s.timer ∧
    (s.clearFaults w).images = s.images ∧
    (s.clearFaults w).calibration = s.calibration ∧
    (s.clearFaults w).service = s.service ∧
    (s.clearFaults w).draws = s.draws ∧
    (s.clearFaults w).pending = s.pending := by
  unfold State.clearFaults; dsimp only; split <;> simp

@[simp] theorem State.steerHistory_frame (s : State) (w : Word) (b : Bool) :
    (s.steerHistory w b).powered = s.powered ∧
    (s.steerHistory w b).resetHeld = s.resetHeld ∧
    (s.steerHistory w b).estopInput = s.estopInput ∧
    (s.steerHistory w b).setupInput = s.setupInput ∧
    (s.steerHistory w b).clock = s.clock ∧
    (s.steerHistory w b).acq = s.acq ∧
    (s.steerHistory w b).window = s.window ∧
    (s.steerHistory w b).groupRef = s.groupRef ∧
    (s.steerHistory w b).rollerRef = s.rollerRef ∧
    (s.steerHistory w b).coupling = s.coupling ∧
    (s.steerHistory w b).torque = s.torque ∧
    (s.steerHistory w b).composer = s.composer ∧
    (s.steerHistory w b).monitor = s.monitor ∧
    (s.steerHistory w b).reaction = s.reaction ∧
    (s.steerHistory w b).cellPort = s.cellPort ∧
    (s.steerHistory w b).drivePort = s.drivePort ∧
    (s.steerHistory w b).timer = s.timer ∧
    (s.steerHistory w b).images = s.images ∧
    (s.steerHistory w b).calibration = s.calibration ∧
    (s.steerHistory w b).service = s.service ∧
    (s.steerHistory w b).draws = s.draws ∧
    (s.steerHistory w b).pending = s.pending := by
  simp [State.steerHistory]

@[simp] theorem State.clearRestartFlag_frame (s : State) (w : Word) :
    (s.clearRestartFlag w).powered = s.powered ∧
    (s.clearRestartFlag w).resetHeld = s.resetHeld ∧
    (s.clearRestartFlag w).estopInput = s.estopInput ∧
    (s.clearRestartFlag w).setupInput = s.setupInput ∧
    (s.clearRestartFlag w).clock = s.clock ∧
    (s.clearRestartFlag w).acq = s.acq ∧
    (s.clearRestartFlag w).window = s.window ∧
    (s.clearRestartFlag w).groupRef = s.groupRef ∧
    (s.clearRestartFlag w).rollerRef = s.rollerRef ∧
    (s.clearRestartFlag w).coupling = s.coupling ∧
    (s.clearRestartFlag w).torque = s.torque ∧
    (s.clearRestartFlag w).composer = s.composer ∧
    (s.clearRestartFlag w).monitor = s.monitor ∧
    (s.clearRestartFlag w).history = s.history ∧
    (s.clearRestartFlag w).cellPort = s.cellPort ∧
    (s.clearRestartFlag w).drivePort = s.drivePort ∧
    (s.clearRestartFlag w).timer = s.timer ∧
    (s.clearRestartFlag w).images = s.images ∧
    (s.clearRestartFlag w).calibration = s.calibration ∧
    (s.clearRestartFlag w).service = s.service ∧
    (s.clearRestartFlag w).draws = s.draws ∧
    (s.clearRestartFlag w).pending = s.pending := by
  unfold State.clearRestartFlag; split <;> simp

@[simp] theorem State.performSet_frame (s : State) (w : Word) :
    (s.performSet w).powered = s.powered ∧
    (s.performSet w).resetHeld = s.resetHeld ∧
    (s.performSet w).estopInput = s.estopInput ∧
    (s.performSet w).setupInput = s.setupInput ∧
    (s.performSet w).clock = s.clock ∧
    (s.performSet w).acq = s.acq ∧
    (s.performSet w).window = s.window ∧
    (s.performSet w).composer = s.composer ∧
    (s.performSet w).monitor = s.monitor ∧
    (s.performSet w).cellPort = s.cellPort ∧
    (s.performSet w).drivePort = s.drivePort ∧
    (s.performSet w).timer = s.timer ∧
    (s.performSet w).images = s.images ∧
    (s.performSet w).calibration = s.calibration ∧
    (s.performSet w).service = s.service ∧
    (s.performSet w).draws = s.draws ∧
    (s.performSet w).pending = s.pending := by
  simp [State.performSet]

@[simp] theorem State.groupFunctionPoint_frame (s : State) :
    s.groupFunctionPoint.powered = s.powered ∧
    s.groupFunctionPoint.resetHeld = s.resetHeld ∧
    s.groupFunctionPoint.estopInput = s.estopInput ∧
    s.groupFunctionPoint.setupInput = s.setupInput ∧
    s.groupFunctionPoint.clock = s.clock ∧
    s.groupFunctionPoint.acq = s.acq ∧
    s.groupFunctionPoint.window = s.window ∧
    s.groupFunctionPoint.composer = s.composer ∧
    s.groupFunctionPoint.monitor = s.monitor ∧
    s.groupFunctionPoint.cellPort = s.cellPort ∧
    s.groupFunctionPoint.drivePort = s.drivePort ∧
    s.groupFunctionPoint.timer = s.timer ∧
    s.groupFunctionPoint.images = s.images ∧
    s.groupFunctionPoint.calibration = s.calibration ∧
    s.groupFunctionPoint.draws = s.draws ∧
    s.groupFunctionPoint.pending = s.pending := by
  unfold State.groupFunctionPoint; split <;> (try split) <;> simp

@[simp] theorem State.countCheck_frame (s : State) :
    s.countCheck.powered = s.powered ∧
    s.countCheck.resetHeld = s.resetHeld ∧
    s.countCheck.estopInput = s.estopInput ∧
    s.countCheck.setupInput = s.setupInput ∧
    s.countCheck.clock = s.clock ∧
    s.countCheck.acq = s.acq ∧
    s.countCheck.window = s.window ∧
    s.countCheck.groupRef = s.groupRef ∧
    s.countCheck.rollerRef = s.rollerRef ∧
    s.countCheck.coupling = s.coupling ∧
    s.countCheck.torque = s.torque ∧
    s.countCheck.composer = s.composer ∧
    s.countCheck.monitor = s.monitor ∧
    s.countCheck.reaction = s.reaction ∧
    s.countCheck.history = s.history ∧
    s.countCheck.cellPort = s.cellPort ∧
    s.countCheck.drivePort = s.drivePort ∧
    s.countCheck.timer = s.timer ∧
    s.countCheck.calibration = s.calibration ∧
    s.countCheck.draws = s.draws ∧
    s.countCheck.pending = s.pending := by
  unfold State.countCheck; dsimp only; split <;> (try split) <;> simp

@[simp] theorem State.advanceCycle_frame (s : State) (k : CycleStart) :
    (s.advanceCycle k).powered = s.powered ∧
    (s.advanceCycle k).resetHeld = s.resetHeld ∧
    (s.advanceCycle k).estopInput = s.estopInput ∧
    (s.advanceCycle k).setupInput = s.setupInput ∧
    (s.advanceCycle k).clock = s.clock ∧
    (s.advanceCycle k).acq = s.acq ∧
    (s.advanceCycle k).window = s.window ∧
    (s.advanceCycle k).groupRef = s.groupRef ∧
    (s.advanceCycle k).rollerRef = s.rollerRef ∧
    (s.advanceCycle k).coupling = s.coupling ∧
    (s.advanceCycle k).torque = s.torque ∧
    (s.advanceCycle k).composer = s.composer ∧
    (s.advanceCycle k).monitor = s.monitor ∧
    (s.advanceCycle k).reaction = s.reaction ∧
    (s.advanceCycle k).history = s.history ∧
    (s.advanceCycle k).cellPort = s.cellPort ∧
    (s.advanceCycle k).drivePort = s.drivePort ∧
    (s.advanceCycle k).images = s.images ∧
    (s.advanceCycle k).calibration = s.calibration ∧
    (s.advanceCycle k).service = s.service ∧
    (s.advanceCycle k).draws = s.draws ∧
    (s.advanceCycle k).pending = s.pending := by
  cases k <;> simp [State.advanceCycle]

@[simp] theorem State.scheduleNext_frame (s : State) (k : CycleStart) :
    (s.scheduleNext k).powered = s.powered ∧
    (s.scheduleNext k).resetHeld = s.resetHeld ∧
    (s.scheduleNext k).estopInput = s.estopInput ∧
    (s.scheduleNext k).setupInput = s.setupInput ∧
    (s.scheduleNext k).clock = s.clock ∧
    (s.scheduleNext k).acq = s.acq ∧
    (s.scheduleNext k).window = s.window ∧
    (s.scheduleNext k).groupRef = s.groupRef ∧
    (s.scheduleNext k).rollerRef = s.rollerRef ∧
    (s.scheduleNext k).coupling = s.coupling ∧
    (s.scheduleNext k).torque = s.torque ∧
    (s.scheduleNext k).composer = s.composer ∧
    (s.scheduleNext k).monitor = s.monitor ∧
    (s.scheduleNext k).reaction = s.reaction ∧
    (s.scheduleNext k).history = s.history ∧
    (s.scheduleNext k).cellPort = s.cellPort ∧
    (s.scheduleNext k).drivePort = s.drivePort ∧
    (s.scheduleNext k).images = s.images ∧
    (s.scheduleNext k).calibration = s.calibration ∧
    (s.scheduleNext k).service = s.service ∧
    (s.scheduleNext k).draws = s.draws ∧
    (s.scheduleNext k).pending = s.pending := by
  cases k <;> simp [State.scheduleNext]

@[simp] theorem State.applyExclusions_frame (s : State) :
    s.applyExclusions.powered = s.powered ∧
    s.applyExclusions.resetHeld = s.resetHeld ∧
    s.applyExclusions.estopInput = s.estopInput ∧
    s.applyExclusions.setupInput = s.setupInput ∧
    s.applyExclusions.clock = s.clock ∧
    s.applyExclusions.window = s.window ∧
    s.applyExclusions.groupRef = s.groupRef ∧
    s.applyExclusions.coupling = s.coupling ∧
    s.applyExclusions.torque = s.torque ∧
    s.applyExclusions.composer = s.composer ∧
    s.applyExclusions.monitor = s.monitor ∧
    s.applyExclusions.history = s.history ∧
    s.applyExclusions.cellPort = s.cellPort ∧
    s.applyExclusions.drivePort = s.drivePort ∧
    s.applyExclusions.timer = s.timer ∧
    s.applyExclusions.images = s.images ∧
    s.applyExclusions.calibration = s.calibration ∧
    s.applyExclusions.service = s.service ∧
    s.applyExclusions.draws = s.draws ∧
    s.applyExclusions.pending = s.pending := by
  simp [State.applyExclusions]

@[simp] theorem State.beginCycle_frame (s : State) (k : CycleStart) :
    (s.beginCycle k).powered = s.powered ∧
    (s.beginCycle k).resetHeld = s.resetHeld ∧
    (s.beginCycle k).estopInput = s.estopInput ∧
    (s.beginCycle k).setupInput = s.setupInput ∧
    (s.beginCycle k).clock = s.clock ∧
    (s.beginCycle k).acq = s.acq ∧
    (s.beginCycle k).window = s.window ∧
    (s.beginCycle k).groupRef = s.groupRef ∧
    (s.beginCycle k).rollerRef = s.rollerRef ∧
    (s.beginCycle k).coupling = s.coupling ∧
    (s.beginCycle k).torque = s.torque ∧
    (s.beginCycle k).composer = s.composer ∧
    (s.beginCycle k).monitor = s.monitor ∧
    (s.beginCycle k).reaction = s.reaction ∧
    (s.beginCycle k).history = s.history ∧
    (s.beginCycle k).cellPort = s.cellPort ∧
    (s.beginCycle k).drivePort = s.drivePort ∧
    (s.beginCycle k).calibration = s.calibration ∧
    (s.beginCycle k).draws = s.draws ∧
    (s.beginCycle k).pending = s.pending := by
  simp [State.beginCycle]

@[simp] theorem State.startWork_frame (s : State) (k : CycleStart) :
    (s.startWork k).powered = s.powered ∧
    (s.startWork k).resetHeld = s.resetHeld ∧
    (s.startWork k).estopInput = s.estopInput ∧
    (s.startWork k).setupInput = s.setupInput ∧
    (s.startWork k).clock = s.clock ∧
    (s.startWork k).window = s.window ∧
    (s.startWork k).groupRef = s.groupRef ∧
    (s.startWork k).coupling = s.coupling ∧
    (s.startWork k).torque = s.torque ∧
    (s.startWork k).composer = s.composer ∧
    (s.startWork k).monitor = s.monitor ∧
    (s.startWork k).history = s.history ∧
    (s.startWork k).cellPort = s.cellPort ∧
    (s.startWork k).drivePort = s.drivePort ∧
    (s.startWork k).calibration = s.calibration ∧
    (s.startWork k).draws = s.draws ∧
    (s.startWork k).pending = s.pending := by
  simp [State.startWork]

@[simp] theorem State.startCycle_frame (s : State) (k : CycleStart) :
    (s.startCycle k).powered = s.powered ∧
    (s.startCycle k).resetHeld = s.resetHeld ∧
    (s.startCycle k).estopInput = s.estopInput ∧
    (s.startCycle k).setupInput = s.setupInput ∧
    (s.startCycle k).clock = s.clock ∧
    (s.startCycle k).window = s.window ∧
    (s.startCycle k).composer = s.composer ∧
    (s.startCycle k).monitor = s.monitor ∧
    (s.startCycle k).cellPort = s.cellPort ∧
    (s.startCycle k).drivePort = s.drivePort ∧
    (s.startCycle k).calibration = s.calibration ∧
    (s.startCycle k).draws = s.draws ∧
    (s.startCycle k).pending = s.pending := by
  simp [State.startCycle]

@[simp] theorem State.endCycle_frame (s : State) :
    s.endCycle.powered = s.powered ∧
    s.endCycle.resetHeld = s.resetHeld ∧
    s.endCycle.estopInput = s.estopInput ∧
    s.endCycle.setupInput = s.setupInput ∧
    s.endCycle.clock = s.clock ∧
    s.endCycle.acq = s.acq ∧
    s.endCycle.window = s.window ∧
    s.endCycle.groupRef = s.groupRef ∧
    s.endCycle.rollerRef = s.rollerRef ∧
    s.endCycle.coupling = s.coupling ∧
    s.endCycle.torque = s.torque ∧
    s.endCycle.composer = s.composer ∧
    s.endCycle.monitor = s.monitor ∧
    s.endCycle.reaction = s.reaction ∧
    s.endCycle.history = s.history ∧
    s.endCycle.cellPort = s.cellPort ∧
    s.endCycle.drivePort = s.drivePort ∧
    s.endCycle.images = s.images ∧
    s.endCycle.calibration = s.calibration ∧
    s.endCycle.service = s.service ∧
    s.endCycle.draws = s.draws ∧
    s.endCycle.pending = s.pending := by
  simp [State.endCycle]

end Sys2Proof.Machine
end

