-- ==== Sys2Proof/Laws/Numbers.lean ====
section
/-! SUPPORT. What the arithmetic of Numbers gives: bounds, fixed points, and the arrangements of a list. -/

namespace Sys2Proof.Machine

theorem clamp_within {lo hi : Int} (h : lo ≤ hi) (x : Int) : lo ≤ clamp lo hi x ∧ clamp lo hi x ≤ hi := by
  unfold clamp; split <;> (try split) <;> omega

theorem clamp_of_within {lo hi x : Int} (h : lo ≤ x ∧ x ≤ hi) : clamp lo hi x = x := by
  unfold clamp; split <;> (try split) <;> omega

theorem moveToward_within {lo hi step target x : Int} (hs : 0 ≤ step) (ht : lo ≤ target ∧ target ≤ hi)
    (hx : lo ≤ x ∧ x ≤ hi) : lo ≤ moveToward step target x ∧ moveToward step target x ≤ hi := by
  unfold moveToward
  split
  · exact ht
  · rename_i h
    rw [abs_le] at h
    split <;> omega

theorem rampStep_magnitude {step : Int} (hs : 0 ≤ step) (x : Int) : |rampStep step x| ≤ |x| := by
  unfold rampStep
  split
  · simp
  · rename_i h
    rcases abs_cases x with ⟨h1, h2⟩ | ⟨h1, h2⟩ <;> split <;> rw [abs_le] <;> omega

theorem satInc_le (top n : Nat) : satInc top n ≤ top := by
  unfold satInc; split <;> omega

theorem le_satInc {top n : Nat} (h : n ≤ top) : n ≤ satInc top n := by
  unfold satInc; split <;> omega

/-- An arrangement holds the same reports, each as often. -/
theorem arrange_perm {α : Type} (seed : Nat) (xs : List α) : (arrange seed xs).Perm xs := by
  induction xs generalizing seed with
  | nil => simp [arrange]
  | cons x xs ih =>
    have hl : (arrange (seed / (xs.length + 1)) xs).length = xs.length := (ih _).length_eq
    have hi : seed % (xs.length + 1) ≤ (arrange (seed / (xs.length + 1)) xs).length := by
      rw [hl]; exact Nat.lt_succ_iff.mp (Nat.mod_lt _ (Nat.succ_pos _))
    exact (List.perm_insertIdx x _ hi).trans ((ih _).cons x)

@[simp] theorem bytesOfHalf_length (h : Half) : (bytesOfHalf h).length = 2 := rfl

@[simp] theorem bytesOfWord_length (w : Word) : (bytesOfWord w).length = 4 := rfl

@[simp] theorem bytesOfWords_length (ws : List Word) : (bytesOfWords ws).length = 4 * ws.length := by
  induction ws with
  | nil => rfl
  | cons w ws ih =>
    have h : bytesOfWords (w :: ws) = bytesOfWord w ++ bytesOfWords ws := rfl
    rw [h, List.length_append, ih, bytesOfWord_length, List.length_cons]; omega

/-- A 16-bit field read back from the two bytes it was written as. -/
theorem halfAt_bytesOfHalf (pre post : List Byte) (h : Half) :
    halfAt (pre ++ bytesOfHalf h ++ post) pre.length = h := by
  unfold halfAt byteAt
  have h0 : (pre ++ bytesOfHalf h ++ post).getD pre.length 0 = (h >>> 8).setWidth 8 := by
    simp [bytesOfHalf, List.getD]
  have h1 : (pre ++ bytesOfHalf h ++ post).getD (pre.length + 1) 0 = h.setWidth 8 := by
    simp [bytesOfHalf, List.getD]
  rw [h0, h1]
  ext i hi
  simp only [BitVec.getElem_or, BitVec.getElem_shiftLeft, BitVec.getElem_setWidth, BitVec.getLsbD_setWidth,
    BitVec.getLsbD_ushiftRight]
  by_cases h8 : i < 8
  · simp [h8, BitVec.getLsbD_eq_getElem hi]
  · have : 8 + (i - 8) = i := by omega
    have h2 : i - 8 < 8 := by omega
    simp [h8, this, h2, BitVec.getLsbD_eq_getElem hi]

end Sys2Proof.Machine
end

