-- ==== Sys2Proof/Laws/Telegrams.lean ====
section
/-! SUPPORT. What the passage of a telegram and the computation it starts leave unchanged. -/

namespace Sys2Proof.Machine

@[simp] theorem State.validDemand_frame (s : State) (m : Nat) :
    (s.validDemand m).powered = s.powered ∧
    (s.validDemand m).resetHeld = s.resetHeld ∧
    (s.validDemand m).estopInput = s.estopInput ∧
    (s.validDemand m).setupInput = s.setupInput ∧
    (s.validDemand m).clock = s.clock ∧
    (s.validDemand m).acq = s.acq ∧
    (s.validDemand m).window = s.window ∧
    (s.validDemand m).groupRef = s.groupRef ∧
    (s.validDemand m).rollerRef = s.rollerRef ∧
    (s.validDemand m).coupling = s.coupling ∧
    (s.validDemand m).torque = s.torque ∧
    (s.validDemand m).composer = s.composer ∧
    (s.validDemand m).monitor = s.monitor ∧
    (s.validDemand m).history = s.history ∧
    (s.validDemand m).cellPort = s.cellPort ∧
    (s.validDemand m).drivePort = s.drivePort ∧
    (s.validDemand m).images = s.images ∧
    (s.validDemand m).calibration = s.calibration ∧
    (s.validDemand m).service = s.service ∧
    (s.validDemand m).draws = s.draws ∧
    (s.validDemand m).pending = s.pending := by
  unfold State.validDemand; dsimp only; split <;> simp

@[simp] theorem State.countDrop_frame (s : State) :
    s.countDrop.powered = s.powered ∧
    s.countDrop.resetHeld = s.resetHeld ∧
    s.countDrop.estopInput = s.estopInput ∧
    s.countDrop.setupInput = s.setupInput ∧
    s.countDrop.clock = s.clock ∧
    s.countDrop.acq = s.acq ∧
    s.countDrop.window = s.window ∧
    s.countDrop.groupRef = s.groupRef ∧
    s.countDrop.rollerRef = s.rollerRef ∧
    s.countDrop.coupling = s.coupling ∧
    s.countDrop.torque = s.torque ∧
    s.countDrop.composer = s.composer ∧
    s.countDrop.monitor = s.monitor ∧
    s.countDrop.reaction = s.reaction ∧
    s.countDrop.history = s.history ∧
    s.countDrop.cellPort = s.cellPort ∧
    s.countDrop.drivePort = s.drivePort ∧
    s.countDrop.images = s.images ∧
    s.countDrop.calibration = s.calibration ∧
    s.countDrop.service = s.service ∧
    s.countDrop.draws = s.draws ∧
    s.countDrop.pending = s.pending := by
  simp [State.countDrop]

@[simp] theorem State.deadlineExpires_frame (s : State) (m : Nat) :
    (s.deadlineExpires m).powered = s.powered ∧
    (s.deadlineExpires m).resetHeld = s.resetHeld ∧
    (s.deadlineExpires m).estopInput = s.estopInput ∧
    (s.deadlineExpires m).setupInput = s.setupInput ∧
    (s.deadlineExpires m).acq = s.acq ∧
    (s.deadlineExpires m).window = s.window ∧
    (s.deadlineExpires m).groupRef = s.groupRef ∧
    (s.deadlineExpires m).rollerRef = s.rollerRef ∧
    (s.deadlineExpires m).torque = s.torque ∧
    (s.deadlineExpires m).composer = s.composer ∧
    (s.deadlineExpires m).monitor = s.monitor ∧
    (s.deadlineExpires m).cellPort = s.cellPort ∧
    (s.deadlineExpires m).drivePort = s.drivePort ∧
    (s.deadlineExpires m).images = s.images ∧
    (s.deadlineExpires m).calibration = s.calibration ∧
    (s.deadlineExpires m).service = s.service ∧
    (s.deadlineExpires m).draws = s.draws ∧
    (s.deadlineExpires m).pending = s.pending := by
  simp [State.deadlineExpires]

@[simp] theorem State.deadlineComes_frame (s : State) :
    s.deadlineComes.powered = s.powered ∧
    s.deadlineComes.resetHeld = s.resetHeld ∧
    s.deadlineComes.estopInput = s.estopInput ∧
    s.deadlineComes.setupInput = s.setupInput ∧
    s.deadlineComes.acq = s.acq ∧
    s.deadlineComes.window = s.window ∧
    s.deadlineComes.groupRef = s.groupRef ∧
    s.deadlineComes.rollerRef = s.rollerRef ∧
    s.deadlineComes.torque = s.torque ∧
    s.deadlineComes.composer = s.composer ∧
    s.deadlineComes.monitor = s.monitor ∧
    s.deadlineComes.cellPort = s.cellPort ∧
    s.deadlineComes.drivePort = s.drivePort ∧
    s.deadlineComes.images = s.images ∧
    s.deadlineComes.calibration = s.calibration ∧
    s.deadlineComes.service = s.service ∧
    s.deadlineComes.draws = s.draws ∧
    s.deadlineComes.pending = s.pending := by
  unfold State.deadlineComes; split <;> (try split) <;> simp

@[simp] theorem State.badDemand_frame (s : State) (bs : List Byte) :
    (s.badDemand bs).powered = s.powered ∧
    (s.badDemand bs).resetHeld = s.resetHeld ∧
    (s.badDemand bs).estopInput = s.estopInput ∧
    (s.badDemand bs).setupInput = s.setupInput ∧
    (s.badDemand bs).clock = s.clock ∧
    (s.badDemand bs).groupRef = s.groupRef ∧
    (s.badDemand bs).rollerRef = s.rollerRef ∧
    (s.badDemand bs).torque = s.torque ∧
    (s.badDemand bs).composer = s.composer ∧
    (s.badDemand bs).monitor = s.monitor ∧
    (s.badDemand bs).timer = s.timer ∧
    (s.badDemand bs).images = s.images ∧
    (s.badDemand bs).calibration = s.calibration ∧
    (s.badDemand bs).service = s.service ∧
    (s.badDemand bs).draws = s.draws ∧
    (s.badDemand bs).pending = s.pending := by
  unfold State.badDemand; dsimp only; split <;> simp

@[simp] theorem State.takeRequest_frame (s : State) (bs : List Byte) :
    (s.takeRequest bs).powered = s.powered ∧
    (s.takeRequest bs).resetHeld = s.resetHeld ∧
    (s.takeRequest bs).estopInput = s.estopInput ∧
    (s.takeRequest bs).setupInput = s.setupInput ∧
    (s.takeRequest bs).clock = s.clock ∧
    (s.takeRequest bs).acq = s.acq ∧
    (s.takeRequest bs).window = s.window ∧
    (s.takeRequest bs).groupRef = s.groupRef ∧
    (s.takeRequest bs).rollerRef = s.rollerRef ∧
    (s.takeRequest bs).coupling = s.coupling ∧
    (s.takeRequest bs).torque = s.torque ∧
    (s.takeRequest bs).composer = s.composer ∧
    (s.takeRequest bs).monitor = s.monitor ∧
    (s.takeRequest bs).reaction = s.reaction ∧
    (s.takeRequest bs).history = s.history ∧
    (s.takeRequest bs).cellPort = s.cellPort ∧
    (s.takeRequest bs).drivePort = s.drivePort ∧
    (s.takeRequest bs).timer = s.timer ∧
    (s.takeRequest bs).calibration = s.calibration ∧
    (s.takeRequest bs).pending = s.pending := by
  unfold State.takeRequest; split <;> simp

@[simp] theorem State.accept_frame (s : State) (bs : List Byte) :
    (s.accept bs).powered = s.powered ∧
    (s.accept bs).resetHeld = s.resetHeld ∧
    (s.accept bs).estopInput = s.estopInput ∧
    (s.accept bs).setupInput = s.setupInput ∧
    (s.accept bs).clock = s.clock ∧
    (s.accept bs).acq = s.acq ∧
    (s.accept bs).window = s.window ∧
    (s.accept bs).groupRef = s.groupRef ∧
    (s.accept bs).rollerRef = s.rollerRef ∧
    (s.accept bs).coupling = s.coupling ∧
    (s.accept bs).torque = s.torque ∧
    (s.accept bs).composer = s.composer ∧
    (s.accept bs).monitor = s.monitor ∧
    (s.accept bs).reaction = s.reaction ∧
    (s.accept bs).history = s.history ∧
    (s.accept bs).drivePort = s.drivePort ∧
    (s.accept bs).timer = s.timer ∧
    (s.accept bs).images = s.images ∧
    (s.accept bs).calibration = s.calibration ∧
    (s.accept bs).service = s.service ∧
    (s.accept bs).draws = s.draws ∧
    (s.accept bs).pending = s.pending := by
  simp [State.accept]

@[simp] theorem State.goodDemandPassage_frame (s : State) (bs : List Byte) (m : Nat) :
    (s.goodDemandPassage bs m).powered = s.powered ∧
    (s.goodDemandPassage bs m).resetHeld = s.resetHeld ∧
    (s.goodDemandPassage bs m).estopInput = s.estopInput ∧
    (s.goodDemandPassage bs m).setupInput = s.setupInput ∧
    (s.goodDemandPassage bs m).clock = s.clock ∧
    (s.goodDemandPassage bs m).acq = s.acq ∧
    (s.goodDemandPassage bs m).window = s.window ∧
    (s.goodDemandPassage bs m).groupRef = s.groupRef ∧
    (s.goodDemandPassage bs m).rollerRef = s.rollerRef ∧
    (s.goodDemandPassage bs m).coupling = s.coupling ∧
    (s.goodDemandPassage bs m).torque = s.torque ∧
    (s.goodDemandPassage bs m).composer = s.composer ∧
    (s.goodDemandPassage bs m).monitor = s.monitor ∧
    (s.goodDemandPassage bs m).history = s.history ∧
    (s.goodDemandPassage bs m).drivePort = s.drivePort ∧
    (s.goodDemandPassage bs m).calibration = s.calibration ∧
    (s.goodDemandPassage bs m).pending = s.pending := by
  unfold State.goodDemandPassage; split <;> simp

@[simp] theorem State.demandPassage_frame (s : State) (bs : List Byte) (m : Nat) :
    (s.demandPassage bs m).powered = s.powered ∧
    (s.demandPassage bs m).resetHeld = s.resetHeld ∧
    (s.demandPassage bs m).estopInput = s.estopInput ∧
    (s.demandPassage bs m).setupInput = s.setupInput ∧
    (s.demandPassage bs m).clock = s.clock ∧
    (s.demandPassage bs m).groupRef = s.groupRef ∧
    (s.demandPassage bs m).rollerRef = s.rollerRef ∧
    (s.demandPassage bs m).torque = s.torque ∧
    (s.demandPassage bs m).composer = s.composer ∧
    (s.demandPassage bs m).monitor = s.monitor ∧
    (s.demandPassage bs m).calibration = s.calibration ∧
    (s.demandPassage bs m).pending = s.pending := by
  unfold State.demandPassage; split <;> simp

@[simp] theorem State.receiveDemand_frame (s : State) (bs : List Byte) :
    (s.receiveDemand bs).powered = s.powered ∧
    (s.receiveDemand bs).resetHeld = s.resetHeld ∧
    (s.receiveDemand bs).estopInput = s.estopInput ∧
    (s.receiveDemand bs).setupInput = s.setupInput ∧
    (s.receiveDemand bs).clock = s.clock ∧
    (s.receiveDemand bs).groupRef = s.groupRef ∧
    (s.receiveDemand bs).rollerRef = s.rollerRef ∧
    (s.receiveDemand bs).torque = s.torque ∧
    (s.receiveDemand bs).composer = s.composer ∧
    (s.receiveDemand bs).monitor = s.monitor ∧
    (s.receiveDemand bs).calibration = s.calibration ∧
    (s.receiveDemand bs).pending = s.pending := by
  unfold State.receiveDemand; split <;> simp

@[simp] theorem State.sendNext_frame (s : State) :
    s.sendNext.powered = s.powered ∧
    s.sendNext.resetHeld = s.resetHeld ∧
    s.sendNext.estopInput = s.estopInput ∧
    s.sendNext.setupInput = s.setupInput ∧
    s.sendNext.clock = s.clock ∧
    s.sendNext.groupRef = s.groupRef ∧
    s.sendNext.rollerRef = s.rollerRef ∧
    s.sendNext.coupling = s.coupling ∧
    s.sendNext.torque = s.torque ∧
    s.sendNext.composer = s.composer ∧
    s.sendNext.monitor = s.monitor ∧
    s.sendNext.reaction = s.reaction ∧
    s.sendNext.history = s.history ∧
    s.sendNext.cellPort = s.cellPort ∧
    s.sendNext.timer = s.timer ∧
    s.sendNext.images = s.images ∧
    s.sendNext.calibration = s.calibration ∧
    s.sendNext.service = s.service ∧
    s.sendNext.draws = s.draws ∧
    s.sendNext.pending = s.pending := by
  unfold State.sendNext; split <;> simp

@[simp] theorem State.beginWaitingDemand_frame (s : State) :
    s.beginWaitingDemand.powered = s.powered ∧
    s.beginWaitingDemand.resetHeld = s.resetHeld ∧
    s.beginWaitingDemand.estopInput = s.estopInput ∧
    s.beginWaitingDemand.setupInput = s.setupInput ∧
    s.beginWaitingDemand.clock = s.clock ∧
    s.beginWaitingDemand.groupRef = s.groupRef ∧
    s.beginWaitingDemand.rollerRef = s.rollerRef ∧
    s.beginWaitingDemand.torque = s.torque ∧
    s.beginWaitingDemand.composer = s.composer ∧
    s.beginWaitingDemand.monitor = s.monitor ∧
    s.beginWaitingDemand.calibration = s.calibration ∧
    s.beginWaitingDemand.pending = s.pending := by
  unfold State.beginWaitingDemand; split <;> (try split) <;> simp

@[simp] theorem State.finishDemand_frame (s : State) :
    s.finishDemand.powered = s.powered ∧
    s.finishDemand.resetHeld = s.resetHeld ∧
    s.finishDemand.estopInput = s.estopInput ∧
    s.finishDemand.setupInput = s.setupInput ∧
    s.finishDemand.clock = s.clock ∧
    s.finishDemand.groupRef = s.groupRef ∧
    s.finishDemand.rollerRef = s.rollerRef ∧
    s.finishDemand.torque = s.torque ∧
    s.finishDemand.composer = s.composer ∧
    s.finishDemand.monitor = s.monitor ∧
    s.finishDemand.calibration = s.calibration ∧
    s.finishDemand.pending = s.pending := by
  unfold State.finishDemand; split <;> simp

@[simp] theorem State.examineSlots_frame (s : State) (bs : List Byte) :
    (s.examineSlots bs).powered = s.powered ∧
    (s.examineSlots bs).resetHeld = s.resetHeld ∧
    (s.examineSlots bs).estopInput = s.estopInput ∧
    (s.examineSlots bs).setupInput = s.setupInput ∧
    (s.examineSlots bs).clock = s.clock ∧
    (s.examineSlots bs).window = s.window ∧
    (s.examineSlots bs).groupRef = s.groupRef ∧
    (s.examineSlots bs).rollerRef = s.rollerRef ∧
    (s.examineSlots bs).coupling = s.coupling ∧
    (s.examineSlots bs).torque = s.torque ∧
    (s.examineSlots bs).composer = s.composer ∧
    (s.examineSlots bs).monitor = s.monitor ∧
    (s.examineSlots bs).reaction = s.reaction ∧
    (s.examineSlots bs).history = s.history ∧
    (s.examineSlots bs).cellPort = s.cellPort ∧
    (s.examineSlots bs).drivePort = s.drivePort ∧
    (s.examineSlots bs).timer = s.timer ∧
    (s.examineSlots bs).images = s.images ∧
    (s.examineSlots bs).calibration = s.calibration ∧
    (s.examineSlots bs).service = s.service ∧
    (s.examineSlots bs).draws = s.draws ∧
    (s.examineSlots bs).pending = s.pending := by
  simp [State.examineSlots]

@[simp] theorem State.sendUp_frame (s : State) (bs : List Byte) (b : Bool) :
    (s.sendUp bs b).powered = s.powered ∧
    (s.sendUp bs b).resetHeld = s.resetHeld ∧
    (s.sendUp bs b).estopInput = s.estopInput ∧
    (s.sendUp bs b).setupInput = s.setupInput ∧
    (s.sendUp bs b).clock = s.clock ∧
    (s.sendUp bs b).acq = s.acq ∧
    (s.sendUp bs b).window = s.window ∧
    (s.sendUp bs b).groupRef = s.groupRef ∧
    (s.sendUp bs b).rollerRef = s.rollerRef ∧
    (s.sendUp bs b).coupling = s.coupling ∧
    (s.sendUp bs b).torque = s.torque ∧
    (s.sendUp bs b).composer = s.composer ∧
    (s.sendUp bs b).monitor = s.monitor ∧
    (s.sendUp bs b).reaction = s.reaction ∧
    (s.sendUp bs b).history = s.history ∧
    (s.sendUp bs b).drivePort = s.drivePort ∧
    (s.sendUp bs b).timer = s.timer ∧
    (s.sendUp bs b).images = s.images ∧
    (s.sendUp bs b).calibration = s.calibration ∧
    (s.sendUp bs b).service = s.service ∧
    (s.sendUp bs b).draws = s.draws ∧
    (s.sendUp bs b).pending = s.pending := by
  simp [State.sendUp]

@[simp] theorem State.insertAndSend_frame (s : State) (bs : List Byte) :
    (s.insertAndSend bs).powered = s.powered ∧
    (s.insertAndSend bs).resetHeld = s.resetHeld ∧
    (s.insertAndSend bs).estopInput = s.estopInput ∧
    (s.insertAndSend bs).setupInput = s.setupInput ∧
    (s.insertAndSend bs).clock = s.clock ∧
    (s.insertAndSend bs).acq = s.acq ∧
    (s.insertAndSend bs).window = s.window ∧
    (s.insertAndSend bs).groupRef = s.groupRef ∧
    (s.insertAndSend bs).rollerRef = s.rollerRef ∧
    (s.insertAndSend bs).coupling = s.coupling ∧
    (s.insertAndSend bs).torque = s.torque ∧
    (s.insertAndSend bs).composer = s.composer ∧
    (s.insertAndSend bs).monitor = s.monitor ∧
    (s.insertAndSend bs).reaction = s.reaction ∧
    (s.insertAndSend bs).history = s.history ∧
    (s.insertAndSend bs).drivePort = s.drivePort ∧
    (s.insertAndSend bs).timer = s.timer ∧
    (s.insertAndSend bs).images = s.images ∧
    (s.insertAndSend bs).calibration = s.calibration ∧
    (s.insertAndSend bs).draws = s.draws ∧
    (s.insertAndSend bs).pending = s.pending := by
  unfold State.insertAndSend; split <;> simp

@[simp] theorem State.badFeedback_frame (s : State) (bs : List Byte) :
    (s.badFeedback bs).powered = s.powered ∧
    (s.badFeedback bs).resetHeld = s.resetHeld ∧
    (s.badFeedback bs).estopInput = s.estopInput ∧
    (s.badFeedback bs).setupInput = s.setupInput ∧
    (s.badFeedback bs).clock = s.clock ∧
    (s.badFeedback bs).acq = s.acq ∧
    (s.badFeedback bs).window = s.window ∧
    (s.badFeedback bs).groupRef = s.groupRef ∧
    (s.badFeedback bs).rollerRef = s.rollerRef ∧
    (s.badFeedback bs).torque = s.torque ∧
    (s.badFeedback bs).composer = s.composer ∧
    (s.badFeedback bs).monitor = s.monitor ∧
    (s.badFeedback bs).timer = s.timer ∧
    (s.badFeedback bs).images = s.images ∧
    (s.badFeedback bs).calibration = s.calibration ∧
    (s.badFeedback bs).service = s.service ∧
    (s.badFeedback bs).draws = s.draws ∧
    (s.badFeedback bs).pending = s.pending := by
  unfold State.badFeedback; dsimp only; split <;> simp

@[simp] theorem State.feedbackPassage_frame (s : State) (bs : List Byte) :
    (s.feedbackPassage bs).powered = s.powered ∧
    (s.feedbackPassage bs).resetHeld = s.resetHeld ∧
    (s.feedbackPassage bs).estopInput = s.estopInput ∧
    (s.feedbackPassage bs).setupInput = s.setupInput ∧
    (s.feedbackPassage bs).clock = s.clock ∧
    (s.feedbackPassage bs).window = s.window ∧
    (s.feedbackPassage bs).groupRef = s.groupRef ∧
    (s.feedbackPassage bs).rollerRef = s.rollerRef ∧
    (s.feedbackPassage bs).torque = s.torque ∧
    (s.feedbackPassage bs).composer = s.composer ∧
    (s.feedbackPassage bs).monitor = s.monitor ∧
    (s.feedbackPassage bs).timer = s.timer ∧
    (s.feedbackPassage bs).images = s.images ∧
    (s.feedbackPassage bs).calibration = s.calibration ∧
    (s.feedbackPassage bs).draws = s.draws ∧
    (s.feedbackPassage bs).pending = s.pending := by
  unfold State.feedbackPassage; split <;> simp

@[simp] theorem State.receiveFeedback_frame (s : State) (bs : List Byte) :
    (s.receiveFeedback bs).powered = s.powered ∧
    (s.receiveFeedback bs).resetHeld = s.resetHeld ∧
    (s.receiveFeedback bs).estopInput = s.estopInput ∧
    (s.receiveFeedback bs).setupInput = s.setupInput ∧
    (s.receiveFeedback bs).clock = s.clock ∧
    (s.receiveFeedback bs).window = s.window ∧
    (s.receiveFeedback bs).groupRef = s.groupRef ∧
    (s.receiveFeedback bs).rollerRef = s.rollerRef ∧
    (s.receiveFeedback bs).torque = s.torque ∧
    (s.receiveFeedback bs).composer = s.composer ∧
    (s.receiveFeedback bs).monitor = s.monitor ∧
    (s.receiveFeedback bs).timer = s.timer ∧
    (s.receiveFeedback bs).images = s.images ∧
    (s.receiveFeedback bs).calibration = s.calibration ∧
    (s.receiveFeedback bs).draws = s.draws ∧
    (s.receiveFeedback bs).pending = s.pending := by
  unfold State.receiveFeedback; split <;> simp

@[simp] theorem State.beginWaitingFeedback_frame (s : State) :
    s.beginWaitingFeedback.powered = s.powered ∧
    s.beginWaitingFeedback.resetHeld = s.resetHeld ∧
    s.beginWaitingFeedback.estopInput = s.estopInput ∧
    s.beginWaitingFeedback.setupInput = s.setupInput ∧
    s.beginWaitingFeedback.clock = s.clock ∧
    s.beginWaitingFeedback.window = s.window ∧
    s.beginWaitingFeedback.groupRef = s.groupRef ∧
    s.beginWaitingFeedback.rollerRef = s.rollerRef ∧
    s.beginWaitingFeedback.torque = s.torque ∧
    s.beginWaitingFeedback.composer = s.composer ∧
    s.beginWaitingFeedback.monitor = s.monitor ∧
    s.beginWaitingFeedback.timer = s.timer ∧
    s.beginWaitingFeedback.images = s.images ∧
    s.beginWaitingFeedback.calibration = s.calibration ∧
    s.beginWaitingFeedback.draws = s.draws ∧
    s.beginWaitingFeedback.pending = s.pending := by
  unfold State.beginWaitingFeedback; split <;> simp

@[simp] theorem State.restartReset_frame (s : State) :
    s.restartReset.powered = s.powered ∧
    s.restartReset.resetHeld = s.resetHeld ∧
    s.restartReset.estopInput = s.estopInput ∧
    s.restartReset.setupInput = s.setupInput ∧
    s.restartReset.clock = s.clock ∧
    s.restartReset.draws = s.draws ∧
    s.restartReset.pending = s.pending := by
  simp [State.restartReset]

@[simp] theorem State.finishFeedback_frame (s : State) :
    s.finishFeedback.powered = s.powered ∧
    s.finishFeedback.resetHeld = s.resetHeld ∧
    s.finishFeedback.estopInput = s.estopInput ∧
    s.finishFeedback.setupInput = s.setupInput ∧
    s.finishFeedback.clock = s.clock ∧
    s.finishFeedback.pending = s.pending := by
  unfold State.finishFeedback; dsimp only; split <;> (try split) <;> (try split) <;> simp

@[simp] theorem State.happens_frame (s : State) (e : Event) :
    (s.happens e).powered = s.powered ∧
    (s.happens e).resetHeld = s.resetHeld ∧
    (s.happens e).pending = s.pending := by
  cases e <;> simp [State.happens]

@[simp] theorem State.takeEvent_frame (s : State) (e : MidEvent) :
    (s.takeEvent e).powered = s.powered ∧
    (s.takeEvent e).resetHeld = s.resetHeld ∧
    (s.takeEvent e).pending = s.pending := by
  unfold State.takeEvent; split <;> simp

@[simp] theorem State.foldEvents_frame (s : State) (es : List MidEvent) :
    (es.foldl State.takeEvent s).powered = s.powered ∧
    (es.foldl State.takeEvent s).resetHeld = s.resetHeld ∧
    (es.foldl State.takeEvent s).pending = s.pending := by
  induction es generalizing s with
  | nil => simp
  | cons e es ih => simp [ih]

@[simp] theorem State.takeEvents_frame (s : State) (es : List MidEvent) (p : Nat) :
    (s.takeEvents es p).powered = s.powered ∧
    (s.takeEvents es p).resetHeld = s.resetHeld ∧
    (s.takeEvents es p).pending = s.pending := by
  simp [State.takeEvents]

end Sys2Proof.Machine
end

