-- ==== Sys2Proof/Laws/Word.lean ====
section
/-! SUPPORT. The laws of the four-fold pack: reading what was built, set or repeated. -/

namespace Sys2Proof

@[simp] theorem Quad.get_ofFn {α : Type} (f : Chan → α) (i : Chan) : (Quad.ofFn f).get i = f i := by
  fin_cases i <;> rfl

@[simp] theorem Quad.get_all {α : Type} (x : α) (i : Chan) : (Quad.all x).get i = x := by
  fin_cases i <;> rfl

theorem Quad.get_set {α : Type} (q : Quad α) (i j : Chan) (x : α) :
    (q.set i x).get j = if j = i then x else q.get j := by
  simp [Quad.set]

@[simp] theorem Quad.get_set_same {α : Type} (q : Quad α) (i : Chan) (x : α) : (q.set i x).get i = x := by
  simp [Quad.get_set]

theorem Quad.get_set_other {α : Type} (q : Quad α) {i j : Chan} (h : j ≠ i) (x : α) :
    (q.set i x).get j = q.get j := by
  simp [Quad.get_set, h]

/-- Two packs with the same four records are the same pack. -/
theorem Quad.ext_get {α : Type} {p q : Quad α} (h : ∀ i, p.get i = q.get i) : p = q := by
  cases p; cases q
  simpa [Quad.get] using ⟨h 0, h 1, h 2, h 3⟩

@[simp] theorem Quad.ofFn_get {α : Type} (q : Quad α) : Quad.ofFn q.get = q := Quad.ext_get fun i => by simp

@[simp] theorem mem_channels (i : Chan) : i ∈ channels := by
  fin_cases i <;> simp [channels]

end Sys2Proof
end

