-- ==== Sys2Proof/Laws/Effects.lean ====
section
/-! SUPPORT. What the shared operations do to the fields they change: one lemma per operation, cited instead of
unfolding it. -/

namespace Sys2Proof.Machine

/-! ### Levels and reports -/

@[simp] theorem State.setLevels_reaction (s : State) (l : Quad Level) :
    (s.setLevels l).reaction = { s.reaction with levels := l } := by
  simp [State.setLevels]

theorem State.setLevels_coupling (s : State) (l : Quad Level) (g : Chan) :
    (s.setLevels l).coupling.get g = (s.coupling.get g).onLevel (s.reaction.levels.get g) (l.get g) := by
  simp [State.setLevels]

theorem State.setExclusion_reaction (s : State) (k : FaultKind) (c : Chan) :
    (s.setExclusion k c).reaction =
      { s.reaction with
        exclusions :=
          if k.scopeKind = .roller ∧ s.configuredLevel k = .degrade then s.reaction.exclusions.set c true
          else s.reaction.exclusions } := by
  unfold State.setExclusion; split <;> simp_all

theorem State.offerTrigger_history (s : State) (k : FaultKind) :
    (s.offerTrigger k).history = if s.triggers k then s.history.trigger s.active.postTrigger else s.history := by
  unfold State.offerTrigger; split <;> simp_all

theorem State.active_eq {s t : State} (h : s.images = t.images) : s.active = t.active := by
  simp [State.active, h]

theorem State.configuredLevel_eq {s t : State} (h : s.images = t.images) (k : FaultKind) :
    s.configuredLevel k = t.configuredLevel k := by
  simp [State.configuredLevel, State.active, h]

/-- Everything an occurrence does to the Reaction unit (R94, R97, R99). -/
theorem State.occurrence_reaction (s : State) (k : FaultKind) (c : Chan) :
    (s.occurrence k c).reaction =
      { s.reaction with
        faults := recordFault s.reaction.faults k c s.timer.cycleCount
        levels := Quad.ofFn fun g =>
          if appliesTo s.active k c g then (s.reaction.levels.get g).max (s.configuredLevel k)
          else s.reaction.levels.get g
        exclusions :=
          if k.scopeKind = .roller ∧ s.configuredLevel k = .degrade then s.reaction.exclusions.set c true
          else s.reaction.exclusions } := by
  simp [State.occurrence, State.setExclusion_reaction, State.escalate, State.configuredLevel, State.active]
  constructor <;> rfl

/-- Everything an occurrence does to the group states (R57, R97). -/
theorem State.occurrence_coupling (s : State) (k : FaultKind) (c g : Chan) :
    (s.occurrence k c).coupling.get g =
      (s.coupling.get g).onLevel (s.reaction.levels.get g)
        (if appliesTo s.active k c g then (s.reaction.levels.get g).max (s.configuredLevel k)
         else s.reaction.levels.get g) := by
  simp [State.occurrence, State.escalate, State.setLevels_coupling, State.configuredLevel, State.active]
  rfl

/-- Everything an occurrence does to the History buffer (R110). -/
theorem State.occurrence_history (s : State) (k : FaultKind) (c : Chan) :
    (s.occurrence k c).history = if s.triggers k then s.history.trigger s.active.postTrigger else s.history := by
  have ht : ∀ t : State, t.images = s.images → t.triggers k = s.triggers k := fun t e => by
    unfold State.triggers; rw [State.configuredLevel_eq e, State.active_eq e]
  rw [State.occurrence, State.offerTrigger_history, ht _ (by simp), State.active_eq (t := s) (by simp)]
  simp

@[simp] theorem State.causeEnds_reaction (s : State) (k : FaultKind) (c : Chan) :
    (s.causeEnds k c).reaction = { s.reaction with faults := endCause s.reaction.faults k c } := by
  simp [State.causeEnds]

/-- No report changes the Restart flag or the ESTOP cause. -/
@[simp] theorem State.takeReport_flags (s : State) (p : Report) :
    (s.takeReport p).reaction.restart = s.reaction.restart ∧
    (s.takeReport p).reaction.estopCause = s.reaction.estopCause := by
  cases p <;> simp [State.takeReport, State.occurrence_reaction]

@[simp] theorem State.foldReports_flags (s : State) (ps : List Report) :
    (ps.foldl State.takeReport s).reaction.restart = s.reaction.restart ∧
    (ps.foldl State.takeReport s).reaction.estopCause = s.reaction.estopCause := by
  induction ps generalizing s with
  | nil => simp
  | cons p ps ih => simp [ih]

@[simp] theorem State.takeReports_flags (s : State) (ps : List Report) :
    (s.takeReports ps).reaction.restart = s.reaction.restart ∧
    (s.takeReports ps).reaction.estopCause = s.reaction.estopCause := by
  unfold State.takeReports; split <;> simp

/-- The reports of a stage are taken one by one in some order, which may draw a free value (R96). -/
theorem State.takeReports_fold (s : State) (ps : List Report) :
    ∃ (qs : List Report) (n : Nat), qs.Perm ps ∧ s.takeReports ps = qs.foldl State.takeReport (s.withDraws n) := by
  have hs : s.withDraws s.draws = s := rfl
  unfold State.takeReports
  split
  · exact ⟨[], s.draws, .refl _, rfl⟩
  · exact ⟨_, s.draws, .refl _, rfl⟩
  · exact ⟨_, _, arrange_perm _ _, rfl⟩

/-- A property every report keeps is kept by the reports of a stage, in whichever order they are taken. -/
theorem State.takeReports_keeps {P : State → Prop} {ps : List Report}
    (hd : ∀ s n, P s → P (s.withDraws n)) (hp : ∀ s, ∀ p ∈ ps, P s → P (s.takeReport p)) {s : State} (h : P s) :
    P (s.takeReports ps) := by
  have hf : ∀ qs : List Report, (∀ q ∈ qs, q ∈ ps) → ∀ t, P t → P (qs.foldl State.takeReport t) := by
    intro qs
    induction qs with
    | nil => intro _ t ht; exact ht
    | cons q qs ih =>
      intro hq t ht
      exact ih (fun r hr => hq r (by simp [hr])) _ (hp t q (hq q (by simp)) ht)
  obtain ⟨qs, n, hq, e⟩ := s.takeReports_fold ps
  exact e ▸ hf qs (fun _ => hq.mem_iff.mp) _ (hd _ n h)

/-! ### The Drive port -/

/-- A telegram that becomes ready at a free Drive port is sent at once; otherwise it is the last of those ready (R121). -/
theorem State.driveReady_drivePort (s : State) (o : Outgoing) (m : Nat) :
    (s.driveReady o m).drivePort =
      match s.drivePort.sending with
      | some _ => { s.drivePort with ready := s.drivePort.ready ++ [o] }
      | none =>
        match o.origin with
        | .poisoned => { s.drivePort with sending := some o }
        | .edited => { s.drivePort with sending := some o, lastSeq := some (sequenceOf o.bytes), lastTx := some m }
        | .substitute => { s.drivePort with sending := some o, lastSeq := some (sequenceOf o.bytes), lastTx := some m } := by
  unfold State.driveReady State.transmit
  cases s.drivePort.sending <;> cases o.origin <;> simp

/-! ### The Service queue -/

/-- A request handed over: refused, queued, or the new head performed at once (R160, R161). -/
theorem State.handOver_cases (s : State) (q : Request) :
    (s.service.queue.length < Config.queueCapacity ∧ s.service.queue = [] ∧
      s.handOver q = ((s.appendRequest q).withService
        { s.service with queue := [q], overrun := false, progress := some .waiting, ready := none }).performKind q) ∨
    (s.service.queue.length < Config.queueCapacity ∧ s.service.queue ≠ [] ∧ s.handOver q = s.appendRequest q) ∨
    (Config.queueCapacity ≤ s.service.queue.length ∧ s.handOver q = s.overrunRequest q) := by
  unfold State.handOver
  by_cases h : s.service.queue.length < Config.queueCapacity
  · by_cases e : s.service.queue = []
    · refine .inl ⟨h, e, ?_⟩
      simp [State.performHead, State.appendRequest, e, Config.queueCapacity]
    · exact .inr (.inl ⟨h, e, by simp [h, e]⟩)
  · exact .inr (.inr ⟨Nat.le_of_not_lt h, by simp [h]⟩)

/-! ### Reset -/

/-- What a reset leaves in the Calibration store (R159). -/
@[simp] theorem State.resetBlocks_calibration (s : State) : s.resetBlocks.calibration = s.survivingStore := by
  simp [State.resetBlocks]

/-! ### Events during a computation -/

@[simp] theorem State.takeEvents_nil (s : State) (p : Nat) : s.takeEvents [] p = s := rfl

/-- An event that does not come at a point is passed over there. -/
theorem State.takeEvents_single (s : State) (e : MidEvent) (p : Nat) :
    s.takeEvents [e] p = if e.point = p then s.takeEvent e else s := by
  by_cases h : e.point = p <;> simp [State.takeEvents, h]

theorem State.runStage_running {s : State} (h : s.timer.computing.isSome = true) (f : State → State) :
    s.runStage f = f s := by
  simp [State.runStage, h]

/-- Without events the stages run one after the other, where each leaves the computation running. -/
theorem State.runFrom_nil {fs : List (State → State)} (hf : ∀ f ∈ fs, ∀ u, (f u).timer.computing = u.timer.computing) :
    ∀ (p : Nat) (s : State), s.timer.computing.isSome = true →
      State.runFrom [] fs p s = fs.foldl (fun u f => f u) s := by
  induction fs with
  | nil => intro p s _; rfl
  | cons f fs ih =>
    intro p s h
    simp only [State.runFrom, State.takeEvents_nil, State.runStage_running h, List.foldl_cons]
    exact ih (fun g hg => hf g (by simp [hg])) _ _ (by rw [hf f (by simp)]; exact h)

/-- No stage ends the computation. -/
theorem cycleStages_computing (old : Option Image) (sent : Bool) :
    ∀ f ∈ cycleStages old sent, ∀ u, (f u).timer.computing = u.timer.computing := by
  intro f hf u
  simp only [cycleStages, List.mem_cons, List.not_mem_nil, or_false] at hf
  rcases hf with rfl | rfl | rfl | rfl | rfl | rfl <;> simp

/-- A property that every stage and every event keeps is kept by the run of the stages. -/
theorem State.runFrom_keeps {P : State → Prop} {during : List MidEvent} {fs : List (State → State)}
    (hs : ∀ f ∈ fs, ∀ u, P u → P (f u)) (he : ∀ e ∈ during, ∀ u, P u → P (u.takeEvent e)) :
    ∀ (p : Nat) (s : State), P s → P (State.runFrom during fs p s) := by
  have ht : ∀ es : List MidEvent, (∀ e ∈ es, e ∈ during) → ∀ u, P u → P (es.foldl State.takeEvent u) := by
    intro es
    induction es with
    | nil => intro _ u hu; exact hu
    | cons e es ih => intro hd u hu; exact ih (fun x hx => hd x (by simp [hx])) _ (he e (hd e (by simp)) u hu)
  have hp : ∀ p u, P u → P (u.takeEvents during p) := fun p u hu => ht _ (fun e h => (List.mem_filter.mp h).1) u hu
  induction fs with
  | nil => intro p s h; exact hp p s h
  | cons f fs ih =>
    intro p s h
    refine ih (fun g hg => hs g (by simp [hg])) _ _ ?_
    unfold State.runStage
    split
    · exact hs f (by simp) _ (hp p s h)
    · exact hp p s h

end Sys2Proof.Machine
end

