-- ==== Sys2Proof/Laws/Image.lean ====
section
/-! SUPPORT. Reading a field of an image after one has been put. -/

namespace Sys2Proof.Machine

theorem Image.field_eq (img : Image) {i : Nat} (h : i < 254) : img.field i = img[i] := by
  simp [Image.field, List.getD, h]

theorem Image.field_put (img : Image) {i : Nat} (h : i < 254) (j : Nat) (w : Word) :
    (img.put i w).field j = if j = i then w else img.field j := by
  by_cases hj : j < 254
  · rw [Image.field_eq _ hj, Image.field_eq _ hj, Image.put, Vector.getElem_setIfInBounds]
    by_cases e : i = j
    · simp [e]
    · simp [e, Ne.symm e]
  · have hji : j ≠ i := by omega
    simp [Image.field, List.getD, hj, hji]

/-- An index past the last field names none: the image is unchanged. -/
theorem Image.put_past (img : Image) {i : Nat} (h : 254 ≤ i) (w : Word) : img.put i w = img := by
  unfold Image.put
  rw [Vector.setIfInBounds_eq_of_size_le h]

end Sys2Proof.Machine
end

