-- ==== Sys2Proof/Laws/Operands.lean ====
section
/-! SUPPORT. Check words: a sealed telegram is good, a poisoned one carries the inverted CRC (R119). -/

namespace Sys2Proof.Machine

@[simp] theorem sealed_length (body : List Byte) : (sealed body).length = body.length + 2 := by
  simp [sealed]

@[simp] theorem sealed_take (body : List Byte) : (sealed body).take body.length = body := by
  simp [sealed]

/-- The check word read back from a sealed telegram is the CRC of its body. -/
theorem sealed_check (body : List Byte) : halfAt (sealed body) body.length = crc16 body := by
  have h := halfAt_bytesOfHalf body [] (crc16 body)
  simpa [sealed] using h

/-- A telegram the unit seals is good at the far end when its length and its kind byte are right. -/
theorem sealed_good {n : Nat} {kind : Byte} {body : List Byte} (hn : body.length = n) (hp : 0 < n)
    (hk : byteAt body 0 = kind) : goodTelegram (n + 2) kind (sealed body) = true := by
  have h0 : byteAt (sealed body) 0 = kind := by
    rw [← hk]
    unfold byteAt sealed
    cases body with
    | nil => simp at hn; omega
    | cons b bs => rfl
  have hc : halfAt (sealed body) n = crc16 body := hn ▸ sealed_check body
  have ht : (sealed body).take n = body := hn ▸ sealed_take body
  simp [goodTelegram, h0, hn, hc, ht]

theorem poison_length {bytes : List Byte} (h : 2 ≤ bytes.length) : (poison bytes).length = bytes.length := by
  simp only [poison, List.length_append, List.length_take, bytesOfHalf_length]
  omega

theorem poison_take (bytes : List Byte) :
    (poison bytes).take (bytes.length - 2) = bytes.take (bytes.length - 2) := by
  simp only [poison]
  rw [List.take_append_of_le_length (by rw [List.length_take]; omega), List.take_take, Nat.min_self]

/-- The check word read back from a poisoned telegram. -/
theorem poison_check (bytes : List Byte) :
    halfAt (poison bytes) (bytes.length - 2) = ~~~ crc16 (bytes.take (bytes.length - 2)) := by
  have h := halfAt_bytesOfHalf (bytes.take (bytes.length - 2)) [] (~~~ crc16 (bytes.take (bytes.length - 2)))
  have hl : (bytes.take (bytes.length - 2)).length = bytes.length - 2 := by rw [List.length_take]; omega
  simpa [poison, hl] using h

end Sys2Proof.Machine
end

