-- ==== Sys2Proof/Tests/Slice0.lean ====
section
/-! SUPPORT. Tests from the spec's worked examples, the refusals of ill-formed commands, and for every statement with
hypotheses a named witness that meets them. Expected values are the spec's, by the place each comment names. -/

namespace Sys2Proof.Tests
open Sys2Proof Sys2Proof.Machine

set_option Elab.async false

/-! ### Helpers -/

/-- A request area with eight data words. -/
def area (object : Byte) (index : Half) (count : Byte) (w0 w1 : Word) : RequestArea :=
  ⟨7, object, index, count, [w0, w1, 0, 0, 0, 0, 0, 0]⟩

/-- The state a command leads to. -/
def after (c : Instr) (s : State) : State :=
  match exec c s with
  | .next t => t
  | .fault _ => s
  | .refused _ => s

/-- A good Demand with the destination given. -/
def demandBytes (seq : Half) (destination : Byte) : List Byte :=
  sealed ([1, 0] ++ bytesOfHalf seq ++ List.replicate 12 0 ++ (destination :: List.replicate 38 0))

/-- A good Feedback whose four slots echo one sequence with one status and position count 1000. -/
def feedbackBytes (echo : Half) (status source : Byte) : List Byte :=
  sealed ([2, 0, 0, 0] ++
    (List.replicate 4 (bytesOfHalf echo ++ bytesOfWord 1000 ++ [0, 0, status])).flatten ++
    List.replicate 33 0 ++ (source :: List.replicate 38 0))

/-- An image with fields put in. -/
def putAll (img : Image) (fields : List (Nat × Word)) : Image := fields.foldl (fun acc p => acc.put p.1 p.2) img

/-- The running example's group of four (sections 2.7, 3.6 and 10.5). -/
def groupOfFour : Image :=
  putAll defaultImage
    [(10, 0), (12, 65536), (15, 262144), (16, -8000), (17, 8000), (21, 400), (22, 64),
     (25, 0), (27, 65536), (30, 262144), (31, -8000), (32, 8000), (36, 400), (37, 64),
     (40, 0), (42, 66191), (45, 262144), (46, -8000), (47, 8000), (51, 400), (52, 64),
     (55, 0), (57, 66191), (60, 262144), (61, -8000), (62, 8000), (66, 400), (67, 64),
     (70, 512), (71, 4)]

/-- A state with another Active image. -/
def withActive (s : State) (img : Image) : State := s.withImages { s.images with active := img }

/-- The four rollers of the running example in a group state, SETUP active, Restart flag clear, link UP. -/
def group (state : GroupState) (step : Nat) : State :=
  { withActive State.reset groupOfFour with
    reaction := { Reaction.reset with restart := false }
    timer := { Timer.reset with link := .up, deadline := some 4000, held := some (Quad.all ⟨400, 1⟩) }
    coupling := (Quad.all GroupCoupling.reset).set 0 ⟨state, step, false⟩ }

/-- The held speeds of section 2.7. -/
def speeds : Quad Acquisition :=
  ⟨{ Acquisition.reset with v := 222208 }, { Acquisition.reset with v := 222080 },
   { Acquisition.reset with v := 224384 }, { Acquisition.reset with v := 224448 }⟩

/-- A state with the SETUP line active. -/
def setup : State := { State.reset with
  setupInput := true, images := { ImageStore.reset defaultImage false with setupLine := true } }

/-- A link that has been lost, with its fault entry. -/
def lost : State := { State.reset with
  timer := { Timer.reset with link := .lost, nextExpiry := some 4000 }
  reaction := { Reaction.reset with faults := [⟨.linkLost, 0, 0, 0, 1, true⟩], levels := Quad.all .safe } }

/-- A request of a kind as the head in a progress. -/
def headed (s : State) (kind : Byte) (p : Progress) (r : Option Response) : State :=
  s.withService { s.service with queue := [⟨kind, area 0 0 0 0 0⟩], progress := some p, ready := r }

/-- A DONE without data. -/
def done (kind : Byte) : Response := ⟨kind, 7, .done, 0, 0, [0, 0, 0, 0, 0, 0, 0, 0]⟩

/-- The Drive port sending a telegram, with others ready. -/
def sendingDown (s : State) (o : Outgoing) (ready : List Outgoing) : State :=
  s.withDrivePort { s.drivePort with sending := some o, ready := ready }

/-- A Demand with empty slots that brings a function, with the events given during its computation. -/
def carrier (during : List MidEvent) : Carrier := ⟨1, 0, 1, List.replicate 12 0, ⟨0, during⟩⟩

/-- The state once a good Demand's computation has ended (R123, steps 1 to 4). -/
def runOf (s : State) (elapsed : Nat) (during : List MidEvent) (bytes : List Byte) : State :=
  let told := (s.withClock (s.clock + elapsed)).validDemand (s.clock + elapsed)
  let taken := if destinationOf bytes = 1 then told.handOver (requestOf bytes) else told
  (taken.accept bytes).computeCycle (.cell (demandSlots bytes)) during 0

/-! ### Ill-formed commands are refused (WellFormed) -/

theorem test_area_of_seven_words_is_ill_formed :
    (Instr.read ⟨0, 1, 0, 1, List.replicate 7 0⟩).wf = false := by decide
theorem test_area_of_nine_words_is_ill_formed :
    (Instr.commit ⟨0, 0, 0, 0, List.replicate 9 0⟩).wf = false := by decide
theorem test_area_of_eight_words_is_well_formed : (Instr.read (area 1 0 1 0 0)).wf = true := by decide
theorem test_known_kind_is_not_unknown :
    (Instr.unknownKind 11 (area 0 0 0 0 0)).wf = false ∧ (Instr.unknownKind 1 (area 0 0 0 0 0)).wf = false := by decide
theorem test_unknown_kinds_at_the_bounds :
    (Instr.unknownKind 0 (area 0 0 0 0 0)).wf = true ∧ (Instr.unknownKind 12 (area 0 0 0 0 0)).wf = true := by decide
theorem test_empty_reception_is_ill_formed :
    (Instr.demandReception 0 ⟨0, []⟩ []).wf = false ∧ (Instr.feedbackReception 0 []).wf = false := by decide
theorem test_events_beyond_the_second_computation_are_ill_formed :
    (Instr.substituteExpiry ⟨0, [⟨14, 0, .estopAssert⟩]⟩).wf = false ∧
    (Instr.substituteExpiry ⟨0, [⟨13, 0, .estopAssert⟩]⟩).wf = true ∧
    (Instr.demandSent 0 ⟨0, [⟨0, 0, .demandReception []⟩]⟩).wf = false ∧
    (Instr.demandReception 0 ⟨0, [⟨0, 0, .feedbackReception []⟩]⟩ [1]).wf = false := by decide
theorem test_carrier_has_twelve_slot_bytes :
    (Instr.engage 0 (carrier [])).wf = true ∧
    (Instr.rearm { carrier [] with slots := List.replicate 11 0 }).wf = false ∧
    (Instr.clearPart { carrier [] with slots := List.replicate 13 0 }).wf = false := by decide

/-! ### Worked examples of the spec -/

/-- R119: the CRC of the nine bytes 31 to 39 is 29B1, poisoned D64E. -/
theorem test_crc_of_nine_bytes :
    crc16 [0x31, 0x32, 0x33, 0x34, 0x35, 0x36, 0x37, 0x38, 0x39] = 0x29B1 ∧
    ~~~ crc16 [0x31, 0x32, 0x33, 0x34, 0x35, 0x36, 0x37, 0x38, 0x39] = 0xD64E := by decide +kernel

/-- Section 1.3, wrap and direction invert: −426,758 SU. -/
theorem test_speed_wraps_and_inverts :
    positionDelta 1200 4294965000 true = -3496 ∧ sampleSpeed (-3496) 250000 32 1 = -426758 := by decide

/-- R7: a delta of −2^31 becomes +2^31. -/
theorem test_invert_of_lowest_delta : positionDelta 0x80000000 0 true = 2147483648 := by decide

/-- Section 1.8, cycle 103: a delta spread over three cycles gives 222,229 SU. -/
theorem test_speed_spread_over_three : sampleSpeed (1010417 - 1000000) 262144 16 3 = 222229 := by decide

/-- Section 2.5, ratio curve of three breakpoints, and the falling tie. -/
theorem test_curve_of_three_breakpoints :
    let img := putAll defaultImage [(110, 3), (111, 0), (112, 160000), (113, 640000), (127, 65536), (128, 66191), (129, 66847)]
    curveValue img 1 222215 = 66276 ∧ curveValue img 1 100000 = 65945 ∧ curveValue img 1 160000 = 66191 ∧
    curveValue img 1 700000 = 66847 ∧ segmentValue 100000 0 66000 200000 65999 = 66000 := by decide +kernel

/-- Section 2.7: index speed, reference and errors of the running example. -/
theorem test_reference_of_four_rollers :
    let t := ({ group .coupled 500 with acq := speeds }).referenceStage
    (t.groupRef.get 0).x = 223280 ∧ (t.groupRef.get 0).uRef = 222170 ∧ (t.rollerRef.get 0).e = -38 ∧
    (t.rollerRef.get 1).e = 90 ∧ (t.rollerRef.get 2).e = 6 ∧ (t.rollerRef.get 3).e = -58 := by decide +kernel

/-- R128, R38: before the reference stage a Feedback shows a mark just applied beside the included flag of the earlier
stage, and after it the included flag is clear (R39). -/
theorem test_mark_shown_as_it_stands :
    let s := ({ group .coupled 500 with acq := speeds }).referenceStage
    let t := { s with rollerRef := s.rollerRef.set 1 { s.rollerRef.get 1 with excluded := true } }
    rollerFlags s 1 = 1 ∧ rollerFlags t 1 = 3 ∧ rollerFlags t.referenceStage 1 = 2 := by decide +kernel

/-- Section 3.6, first cycle: coupling torques −64, 64, 12, −64. -/
theorem test_coupling_torque_first_cycle :
    let t := ({ group .coupled 500 with acq := speeds }).referenceStage.couplingStage
    (t.torque.get 0).qOut = -64 ∧ (t.torque.get 1).qOut = 64 ∧ (t.torque.get 2).qOut = 12 ∧ (t.torque.get 3).qOut = -64 ∧
    (t.torque.get 1).a = 90 := by decide +kernel

/-- Section 3.6, release: 8 goes to 0 and −60 to −52. -/
theorem test_release_ramp : rampStep 8 8 = 0 ∧ rampStep 8 (-60) = -52 := by decide

/-- Section 4.7, cases 1 to 4. -/
theorem test_trim_at_the_limits :
    trimmed 33167 (-1311) (-48) = 32998 ∧ trimmed 464 (-1311) (-48) = 459 ∧ trimmed (-33968) 2621 0 = -34308 ∧
    trimmed 100 0 8 = 101 ∧ trimmed (-101) 0 8 = -101 := by decide

/-- Section 4.8: the ramp's first and last steps, and the return's last. -/
theorem test_substitution_steps : moveToward 40 0 528 = 488 ∧ moveToward 40 0 8 = 0 ∧ moveToward 40 300 280 = 300 := by
  decide

/-- Section 5.8, block 3: the mean 3,200.75 is truncated to 3,200; R81, −3,200.75 to −3,200. -/
theorem test_block_mean_truncates : truncDiv 12803 4 = 3200 ∧ truncDiv (-12803) 4 = -3200 := by decide

/-- R108: word 17 of 8,802. -/
theorem test_history_flags_word :
    let r := fun (c : Bool) => (⟨0, 0, 0, 0, false, true, c, false⟩ : RollerRecord)
    (CycleRecord.mk 9 ⟨r false, r true, r false, r false⟩).words.getD 17 0 = 8802 := by decide

/-- Section 10.5: the run 10 to 24 opens with current 9; the second eight values leave one ignored and close it. -/
theorem test_transfer_of_a_roller_record :
    let s1 := after (.openTransfer (area 0 10 0 24 0)) setup
    (s1.images.transfer.current = 9 ∧ s1.images.transfer.isOpen = true) ∧
    ((⟨true, 10, 24, 17, 0⟩ : Transfer).advance 8) = ⟨false, 10, 24, 24, 1⟩ := by decide +kernel

/-- Section 11.6, step 5: a fifth request is refused, flagged and named by its tag. -/
theorem test_fifth_request_overruns :
    let s := State.reset.withService { Service.reset with
      queue := List.replicate 4 ⟨5, area 0 0 0 0 0⟩, progress := some .waiting }
    let t := after (.read ⟨25, 4, 0, 6, List.replicate 8 0⟩) s
    t.service.overrun = true ∧ t.service.lastRefusedTag = 25 ∧ t.service.overruns = 1 ∧ t.service.queue.length = 4 := by
  decide +kernel

/-- R104 and R112: an ESTOP at the defaults raises every group to SAFE and starts 16 post-trigger records. -/
theorem test_estop_at_the_defaults :
    let t := after .estopAssert State.reset
    (∀ g, t.reaction.levels.get g = .safe) ∧ t.history.state = .postTrigger ∧ t.history.remainder = 16 := by
  decide +kernel

/-- R148: the default image passes every check. -/
theorem test_default_image_is_valid : defaultImage.valid = true := by decide +kernel

/-- R147: the running example's image passes, and with weights of 0 it fails at field 70. -/
theorem test_weight_sum_is_checked_at_kp :
    validate groupOfFour = none ∧
    validate (putAll groupOfFour [(11, 0), (26, 0), (41, 0), (56, 0)]) = some 70 := by decide +kernel

/-! ### Witnesses: each meets the hypotheses of the statement it names, a clause at a time -/

theorem witness_StepRunsFrontCommand :
    { State.reset with pending := [.powerOn, .estopAssert] }.pending = .powerOn :: [.estopAssert] ∧
    State.reset.pending = [] := ⟨rfl, rfl⟩

/-- A COMMIT being checked, with its command waiting. -/
def committing : State :=
  { headed State.reset 5 .waiting none with
    images := { ImageStore.reset defaultImage false with commit := ⟨.checking, 0, 0, 0⟩ }, pending := [.commitCheckEnd] }

theorem committing_queueOk : committing.queueOk := by
  refine ⟨by decide, by decide, by decide, by decide, ?_⟩
  rintro ⟨f, h, -⟩
  cases h

theorem committing_headHeld : committing.headHeld :=
  ⟨fun _ => ⟨⟨⟨5, area 0 0 0 0 0⟩, [], rfl, rfl, rfl⟩, by decide⟩, fun h => by cases h⟩

theorem witness_StepKeepsServiceQueue :
    committing.queueOk ∧ committing.headHeld ∧ ∃ t, step committing = .next t :=
  ⟨committing_queueOk, committing_headHeld, _, rfl⟩

theorem committing_imagesOk : committing.imagesOk := by
  refine ⟨by decide +kernel, by decide +kernel, by decide, ?_⟩
  intro p h
  cases h

theorem witness_StepKeepsImagesValid :
    committing.queueOk ∧ committing.headHeld ∧ committing.imagesOk ∧ ∃ t, step committing = .next t :=
  ⟨committing_queueOk, committing_headHeld, committing_imagesOk, _, rfl⟩

/-- One record of the latest computation, triggered with one to go. -/
def recorded : State :=
  { State.reset with
    history := ⟨[⟨1, Quad.all ⟨0, 0, 0, 0, false, false, false, false⟩⟩], .postTrigger, 1⟩
    timer := { Timer.reset with cycleCount := 1 }, pending := [.capture (carrier [])] }

theorem witness_StepKeepsHistoryInOrder : recorded.historyOk ∧ ∃ t, step recorded = .next t :=
  ⟨⟨by decide, by simp [recorded], by simp [recorded], by decide⟩, _, rfl⟩

/-- The lost link with a command that ends the cause waiting. -/
def lostNext : State := { lost with pending := [.substituteExpiry ⟨0, []⟩] }

theorem witness_StepKeepsFaultStore : lostNext.faultsOk ∧ ∃ t, step lostNext = .next t :=
  ⟨⟨by decide, by decide, by decide⟩, _, rfl⟩

theorem witness_StepKeepsCausesShown : lostNext.causesOk ∧ ∃ t, step lostNext = .next t := by
  refine ⟨?_, _, rfl⟩
  intro k scope
  revert scope
  cases k <;> decide

theorem lostNext_queueOk : lostNext.queueOk := by
  refine ⟨by decide, by decide, by decide, by decide, ?_⟩
  rintro ⟨f, h, -⟩
  cases h

theorem lostNext_headHeld : lostNext.headHeld := ⟨fun h => absurd rfl h, fun h => by cases h⟩

theorem witness_StepKeepsLinkAndLoss :
    lostNext.timerOk ∧ lostNext.idle ∧ lostNext.queueOk ∧ lostNext.headHeld ∧ lostNext.imagesOk ∧ lostNext.lostOk ∧
    lostNext.timer.link = .lost ∧ ∃ t, step lostNext = .next t := by
  refine ⟨⟨by decide, by decide⟩, ⟨rfl, rfl⟩, lostNext_queueOk, lostNext_headHeld, ⟨by decide +kernel, by decide +kernel, by decide, ?_⟩,
    fun _ => ⟨by decide, by decide⟩, rfl, _, rfl⟩
  intro p h
  cases h

/-- The running example's group engaging at its first step, with coupling torque at Qeff's bound 0. -/
def engagingNext : State := { group .engaging 1 with pending := [.release 0 (carrier [])] }

theorem engagingNext_queueOk : engagingNext.queueOk := by
  refine ⟨by decide, by decide, by decide, by decide, ?_⟩
  rintro ⟨f, h, -⟩
  cases h

theorem engagingNext_headHeld : engagingNext.headHeld := ⟨fun h => absurd rfl h, fun h => by cases h⟩

theorem engagingNext_imagesOk : engagingNext.imagesOk := by
  refine ⟨by decide +kernel, by decide +kernel, by decide, ?_⟩
  intro p h
  cases h

theorem witness_StepKeepsCouplingPermitted : engagingNext.couplingOk ∧ ∃ t, step engagingNext = .next t :=
  ⟨by unfold State.couplingOk; decide, _, rfl⟩

theorem witness_StepKeepsEngageAndTorque :
    engagingNext.queueOk ∧ engagingNext.headHeld ∧ engagingNext.imagesOk ∧ engagingNext.stepsOk ∧ engagingNext.torqueOk ∧
    ∃ t, step engagingNext = .next t :=
  ⟨engagingNext_queueOk, engagingNext_headHeld, engagingNext_imagesOk, by unfold State.stepsOk; decide +kernel,
    by unfold State.torqueOk; decide +kernel, _, rfl⟩

theorem witness_StepKeepsWrittenInRange :
    engagingNext.queueOk ∧ engagingNext.headHeld ∧ engagingNext.imagesOk ∧ engagingNext.writtenOk ∧
    ∃ t, step engagingNext = .next t :=
  ⟨engagingNext_queueOk, engagingNext_headHeld, engagingNext_imagesOk, by unfold State.writtenOk; decide +kernel, _, rfl⟩

/-- An edited Demand being sent with a poisoned one of three bytes ready behind it. -/
def sendingNext : State :=
  { sendingDown State.reset ⟨.edited, demandBytes 1 0⟩ [⟨.poisoned, poison [9, 9, 9]⟩] with pending := [.demandSent 0 ⟨0, []⟩] }

theorem witness_StepKeepsTelegramChecks : sendingNext.telegramsOk ∧ ∃ t, step sendingNext = .next t := by
  refine ⟨⟨?_, by decide +kernel, ?_⟩, _, rfl⟩
  · intro b h
    cases h
  · intro f h
    cases h

theorem witness_StepKeepsTransferInBounds :
    let s := { State.reset with
      images := { ImageStore.reset defaultImage false with transfer := ⟨true, 0, 253, -1, 0⟩ }
      pending := [.transferData (area 0 0 8 1 1)] }
    s.transferOk ∧ s.images.transfer.isOpen = true ∧ ∃ t, step s = .next t :=
  ⟨fun _ => by decide, rfl, _, rfl⟩

/-- A calibration store write in progress. -/
def writing : State :=
  { headed setup 9 .waiting none with
    images := { setup.images with writing := some ⟨List.replicate 37 0, 1⟩ } }

theorem witness_PowerOnRestoresEveryBlock :
    (State.reset.images.writing = none ∧ State.reset.resetHeld = false) ∧
    (State.reset.withResetHeld true).resetHeld = true := ⟨⟨rfl, rfl⟩, rfl⟩

theorem witness_PowerFailureLosesUnfinishedStore :
    State.reset.images.writing = none ∧ writing.images.writing ≠ none := by decide

theorem witness_HeldResetKeepsResetValues :
    (State.reset.withResetHeld true).resetHeld = true ∧ (Instr.estopAssert ≠ .powerOn ∧ Instr.estopAssert ≠ .powerFailure ∧
      Instr.estopAssert ≠ .resetInputAssert ∧ Instr.estopAssert ≠ .resetInputRelease) ∧
    (Instr.setupChange true ≠ .powerOn ∧ Instr.setupChange true ≠ .powerFailure ∧
      Instr.setupChange true ≠ .resetInputAssert ∧ Instr.setupChange true ≠ .resetInputRelease) ∧
    (Instr.feedbackSent 9 ≠ .powerOn ∧ Instr.feedbackSent 9 ≠ .powerFailure ∧
      Instr.feedbackSent 9 ≠ .resetInputAssert ∧ Instr.feedbackSent 9 ≠ .resetInputRelease) ∧
    State.reset.images.writing = none ∧ writing.images.writing ≠ none := by decide

theorem witness_ResetReleaseSamplesInputs :
    let held := State.reset.withResetHeld true
    (held.resetHeld = true ∧ held.powered = true ∧ held.estopInput = false) ∧
    ((held.withEstopInput true).resetHeld = true ∧ (held.withEstopInput true).powered = true ∧
      (held.withEstopInput true).estopInput = true ∧ (held.withEstopInput true).active.valid = true) := by
  decide +kernel

theorem witness_EstopAssertEscalatesEveryGroup :
    State.reset.alive = true ∧ State.reset.reaction.estopCause = false ∧ State.reset.active.valid = true := by
  decide +kernel

theorem witness_EstopReleaseAndSetupChange :
    let s := after .estopAssert State.reset
    s.alive = true ∧ s.reaction.estopCause = true := by decide +kernel

theorem witness_OccurrenceRecordedAndEscalated :
    (FaultKind.estop.scopeKind = .part) ∧
    (FaultKind.driveFault.scopeKind = .roller ∧ groupOfFour.groupOf 3 = some 0) ∧
    (FaultKind.groupLost.scopeKind = .group) ∧
    (FaultKind.feedbackStale.scopeKind = .roller ∧ State.reset.configuredLevel .feedbackStale = .degrade) ∧
    (1 ≤ State.reset.active.triggerLevel ∧ State.reset.active.triggerLevel ≤ (State.reset.configuredLevel .groupLost).code) ∧
    (State.reset.configuredLevel .feedbackStale).code < State.reset.active.triggerLevel := by decide +kernel

/-- A substitute being sent, so that a Demand may begin its passage behind it. -/
def behindSubstitute : State := sendingDown (group .coupled 500) ⟨.substitute, demandBytes 1 0⟩ []

/-- The link lost with a transmission begun at 0 µs. -/
def lostAfterSending : State := lost.withDrivePort { DrivePort.reset with lastTx := some 0 }

/-- An accepted RESTART whose DONE is being sent up: the reset follows at the end of its transmission. -/
def restarting (s : State) : State :=
  (s.withService
    { Service.reset with queue := [⟨10, area 0 0 0 0 0⟩], progress := some .answered, ready := some (done 10) }).withCellPort
    { CellPort.reset with sending := some ⟨[], true⟩ }

/-- At half a nominal period of 1000 µs the returning Demand is not too soon; one microsecond before, it is. -/
theorem witness_returning_Demand :
    (lostAfterSending.alive = true ∧ lostAfterSending.demandInPassage = false ∧ lostAfterSending.timer.link = .lost) ∧
    ¬ lostAfterSending.tooSoon (lostAfterSending.clock + 500) ∧ lostAfterSending.tooSoon (lostAfterSending.clock + 499) := by
  refine ⟨by decide, ?_, Or.inr (Or.inr ⟨0, rfl, by decide +kernel⟩)⟩
  rintro (h | ⟨o, h, -⟩ | ⟨t, h, h2⟩)
  · cases h
  · cases h
  · cases h
    revert h2
    decide +kernel

theorem processes_reset : State.reset.processes State.reset.clock := ⟨rfl, ⟨rfl, rfl⟩, rfl, fun h => by cases h⟩
theorem processes_behindSubstitute : behindSubstitute.processes behindSubstitute.clock :=
  ⟨rfl, ⟨rfl, rfl⟩, rfl, fun h => by cases h⟩
theorem processes_returning : lostAfterSending.processes (lostAfterSending.clock + 500) :=
  ⟨rfl, ⟨rfl, rfl⟩, rfl, fun _ => witness_returning_Demand.2.1⟩
theorem processes_restarting : (restarting State.reset).processes State.reset.clock :=
  ⟨rfl, ⟨rfl, rfl⟩, rfl, fun h => by cases h⟩

theorem witness_GoodDemandRunsOneComputation :
    (goodDemand (demandBytes 5 1) = true ∧ goodDemand (demandBytes 5 0) = true ∧
      destinationOf (demandBytes 5 1) = 1 ∧ destinationOf (demandBytes 5 0) ≠ 1) ∧
    (State.reset.processes State.reset.clock ∧ State.reset.drivePort.sending = none ∧
      (runOf State.reset 0 [] (demandBytes 5 1)).timer.computing ≠ none) ∧
    (behindSubstitute.processes behindSubstitute.clock ∧
      behindSubstitute.drivePort.sending = some ⟨.substitute, demandBytes 1 0⟩) ∧
    lostAfterSending.processes (lostAfterSending.clock + 500) ∧
    ((restarting State.reset).processes State.reset.clock ∧
      (runOf (restarting State.reset) 0 [⟨6, 0, .feedbackSent⟩] (demandBytes 5 0)).timer.computing = none ∧
      (runOf (restarting State.reset) 0 [⟨6, 0, .deadlineExpiry⟩] (demandBytes 5 0)).timer.computing ≠ none) :=
  ⟨by decide +kernel, ⟨processes_reset, rfl, by decide +kernel⟩, ⟨processes_behindSubstitute, rfl⟩, processes_returning,
    processes_restarting, by decide +kernel, by decide +kernel⟩

/-- A link state while a substitute computation is running. -/
def substituting (link : LinkState) : State := lost.withTimer { lost.timer with link := link, computing := some .substitute }

theorem witness_TelegramsWaitOrAreDropped :
    (sendingNext.alive = true ∧ sendingNext.idle ∧ sendingNext.demandInPassage = true) ∧
    ((State.reset.withCellPort { CellPort.reset with sending := some ⟨[], false⟩ }).alive = true ∧
      (State.reset.withCellPort { CellPort.reset with sending := some ⟨[], false⟩ }).cellPort.sending ≠ none) ∧
    (lostAfterSending.alive = true ∧ lostAfterSending.demandInPassage = false ∧ goodDemand (demandBytes 5 1) = true ∧
      lostAfterSending.timer.link = .lost ∧ lostAfterSending.tooSoon (lostAfterSending.clock + 499)) ∧
    (let s := lost.withDrivePort { DrivePort.reset with
        sending := some ⟨.substitute, []⟩, ready := [⟨.substitute, []⟩] }
     s.alive = true ∧ s.demandInPassage = false ∧ s.timer.link = .lost ∧ s.tooSoon s.clock) ∧
    ((substituting .lost).timer.computing = some .substitute ∧ (substituting .lost).demandInPassage = false ∧
      (substituting .lost).timer.link = .lost ∧ (substituting .up).timer.computing = some .substitute ∧
      (substituting .up).demandInPassage = false ∧ (substituting .up).timer.link ≠ .lost) :=
  ⟨⟨rfl, ⟨rfl, rfl⟩, by decide⟩, by decide, ⟨by decide, by decide, by decide +kernel, by decide, witness_returning_Demand.2.2⟩,
    ⟨by decide, by decide, by decide, Or.inr (Or.inl ⟨⟨.substitute, []⟩, by decide, rfl⟩)⟩, by decide⟩

theorem witness_EditedDemandCarriesWrittenTorques :
    State.reset.active.valid = true ∧ goodDemand (demandBytes 5 1) = true ∧ goodDemand (demandBytes 5 2) = true ∧
    destinationOf (demandBytes 5 1) = 1 ∧ destinationOf (demandBytes 5 2) ≠ 1 := by decide +kernel

theorem witness_BadDemandPoisonedAndCounted :
    State.reset.alive = true ∧ State.reset.demandInPassage = false ∧ State.reset.drivePort.sending = none ∧
    (goodDemand [1, 2] = false ∧ ([1, 2] : List Byte).length < 3) ∧
    (goodDemand [1, 2, 3] = false ∧ 3 ≤ ([1, 2, 3] : List Byte).length) ∧
    (behindSubstitute.alive = true ∧ behindSubstitute.demandInPassage = false ∧
      behindSubstitute.drivePort.sending ≠ none) := by decide +kernel

theorem witness_DeadlineExpiryLosesLink :
    ((group .coupled 500).alive = true ∧ (group .coupled 500).timer.link = .up ∧
      (group .coupled 500).timer.deadline = some 4000 ∧ (group .coupled 500).active.valid = true) ∧
    State.reset.timer.link ≠ .up := by decide +kernel

/-- The computation of the expiry at 4000 µs of a lost link. -/
def substituteRun (s : State) (during : List MidEvent) : State :=
  (s.withClock (max s.clock 4000)).computeCycle (.substitute 4000) during 0

/-- During a substitute computation the first returning Demand is dropped and the one after it accepted (R139, R140). -/
theorem witness_SubstituteExpirySendsDemand :
    (lost.alive = true ∧ lost.idle ∧ lost.timer.link = .lost ∧ lost.timer.nextExpiry = some 4000 ∧
      lost.drivePort.sending = none) ∧
    ((sendingDown lost ⟨.substitute, []⟩ []).drivePort.sending = some ⟨.substitute, []⟩) ∧
    State.reset.timer.nextExpiry = none ∧
    ((substituteRun lost []).timer.computing ≠ none ∧ (substituteRun lost []).cellPort.accepted = none) ∧
    ((substituteRun (restarting lost) [⟨0, 0, .feedbackSent⟩]).timer.computing = none) ∧
    (let during := [⟨0, 0, .demandReception (demandBytes 5 0)⟩, ⟨6, 0, .demandReception (demandBytes 6 0)⟩]
     (substituteRun lost during).timer.computing ≠ none ∧
     (substituteRun lost during).cellPort.accepted = some (demandBytes 6 0)) ∧
    (lost.active.valid = true ∧
      (lost.withTimer { lost.timer with held := some (Quad.all ⟨400, 1⟩) }).timer.held = some (Quad.all ⟨400, 1⟩)) :=
  ⟨⟨rfl, ⟨rfl, rfl⟩, by decide⟩, by decide, by decide, by decide +kernel, by decide +kernel, by decide +kernel,
    by decide +kernel⟩

/-- A reception that waits at the Cell port. -/
def awaiting (s : State) : State := s.withCellPort { CellPort.reset with waiting := some ⟨[1, 2], 0⟩ }

theorem witness_DemandSentStartsNext :
    (State.reset.alive = true ∧ State.reset.idle ∧ State.reset.drivePort.sending = none) ∧
    (behindSubstitute.alive = true ∧ behindSubstitute.idle ∧ behindSubstitute.drivePort.sending ≠ none ∧
      behindSubstitute.drivePort.ready = [] ∧ behindSubstitute.cellPort.waiting = none ∧
      (awaiting behindSubstitute).cellPort.waiting = some ⟨[1, 2], 0⟩) ∧
    (sendingNext.idle ∧ sendingNext.drivePort.sending ≠ none ∧
      sendingNext.drivePort.ready = ⟨.poisoned, poison [9, 9, 9]⟩ :: [] ∧ sendingNext.cellPort.waiting = none) ∧
    (let s := awaiting (sendingDown State.reset ⟨.substitute, []⟩ [⟨.substitute, []⟩, ⟨.edited, demandBytes 1 0⟩])
     s.alive = true ∧ s.idle ∧ s.cellPort.waiting = some ⟨[1, 2], 0⟩ ∧
     ∃ x ∈ s.drivePort.ready, x.origin ≠ .substitute) ∧
    (let s := awaiting (sendingDown State.reset ⟨.substitute, []⟩ [⟨.substitute, []⟩])
     s.alive = true ∧ s.idle ∧ s.drivePort.ready = ⟨.substitute, []⟩ :: [] ∧ s.cellPort.waiting = some ⟨[1, 2], 0⟩ ∧
     ∀ x ∈ s.drivePort.ready, x.origin = .substitute) := by
  unfold State.idle
  decide +kernel

/-- A window open on sequence 7 and a response ready. -/
def answering : State :=
  (headed State.reset 10 .performed (some (done 10))).withWindow (some 7)

theorem goodFeedback_made (echo : Half) (status source : Byte) : goodFeedback (feedbackBytes echo status source) = true :=
  sealed_good (n := 112) rfl (by decide) rfl

theorem witness_GoodFeedbackExaminedAndCompleted :
    (answering.alive = true ∧ answering.cellPort.sending = none) ∧
    (goodFeedback (feedbackBytes 7 4 0) = true ∧ answering.window = some (echoOf (feedbackBytes 7 4 0) 0) ∧
      (answering.acq.get 0).taken = false ∧ (statusOf (feedbackBytes 7 4 0) 0).positionValid = true) ∧
    (goodFeedback (feedbackBytes 7 3 2) = true ∧ (statusOf (feedbackBytes 7 3 2) 0).positionValid = false ∧
      responseSource (feedbackBytes 7 3 2) ≠ 0) ∧
    (goodFeedback (feedbackBytes 6 4 0) = true ∧ answering.window ≠ some (echoOf (feedbackBytes 6 4 0) 0)) ∧
    (responseSource (feedbackBytes 7 4 0) = 0 ∧ answering.service.progress = some .performed ∧
      answering.service.ready = some (done 10)) :=
  ⟨by decide, ⟨goodFeedback_made _ _ _, by decide +kernel⟩, ⟨goodFeedback_made _ _ _, by decide +kernel⟩,
    ⟨goodFeedback_made _ _ _, by decide +kernel⟩, by decide +kernel⟩

theorem witness_BadFeedbackPoisonedAndCounted :
    State.reset.alive = true ∧ State.reset.cellPort.sending = none ∧
    (goodFeedback [2, 0] = false ∧ ([2, 0] : List Byte).length < 3) ∧
    (goodFeedback [2, 0, 0] = false ∧ 3 ≤ ([2, 0, 0] : List Byte).length) := by decide +kernel

/-- A response being sent up, with or without a request behind it. -/
def carrying (rest : List Request) : State :=
  (State.reset.withService
    { Service.reset with queue := ⟨10, area 0 0 0 0 0⟩ :: rest, progress := some .answered, ready := some (done 10) }).withCellPort
    { CellPort.reset with sending := some ⟨[], true⟩ }

/-- The same with a REFUSED_STATE in place of the DONE. -/
def carryingRefusal (rest : List Request) : State :=
  (carrying rest).withService { (carrying rest).service with ready := some { done 10 with outcome := .refusedState } }

theorem witness_FeedbackSentAdvancesQueue :
    (State.reset.alive = true ∧ State.reset.cellPort.sending = none) ∧
    (let s := State.reset.withCellPort { CellPort.reset with sending := some ⟨[], false⟩ }
     s.alive = true ∧ s.cellPort.sending = some ⟨[], false⟩ ∧ s.drivePort.waiting = none) ∧
    ((carryingRefusal []).alive = true ∧ (carryingRefusal []).cellPort.sending = some ⟨[], true⟩ ∧
      (carryingRefusal []).restartDue = false ∧ (carryingRefusal []).drivePort.waiting = none ∧
      (carryingRefusal []).service.queue = [⟨10, area 0 0 0 0 0⟩]) ∧
    ((carryingRefusal [⟨9, area 0 0 0 0 0⟩]).restartDue = false ∧
      (carryingRefusal [⟨9, area 0 0 0 0 0⟩]).service.queue =
        ⟨10, area 0 0 0 0 0⟩ :: ⟨9, area 0 0 0 0 0⟩ :: []) ∧
    (let s := (State.reset.withCellPort { CellPort.reset with sending := some ⟨[], false⟩ }).withDrivePort
       { DrivePort.reset with waiting := some [2, 0, 0] }
     s.alive = true ∧ s.cellPort.sending = some ⟨[], false⟩ ∧ s.drivePort.waiting = some [2, 0, 0]) ∧
    (let s := (carryingRefusal []).withDrivePort { DrivePort.reset with waiting := some [2, 0, 0] }
     s.alive = true ∧ s.cellPort.sending = some ⟨[], true⟩ ∧ s.restartDue = false ∧
     s.service.queue = [⟨10, area 0 0 0 0 0⟩] ∧ s.drivePort.waiting = some [2, 0, 0]) := by decide

theorem witness_RestartResetsAfterAnswer :
    (carrying []).alive = true ∧ (carrying []).cellPort.sending = some ⟨[], true⟩ ∧
    (carrying []).service.queue = ⟨10, area 0 0 0 0 0⟩ :: [] ∧ (⟨10, area 0 0 0 0 0⟩ : Request).code = 10 ∧
    (carrying []).service.ready = some (done 10) ∧ (done 10).outcome = .done ∧
    (carrying []).images.writing = none := by decide

theorem witness_ArithmeticPeriodAndDelta :
    (0 : Int) < 2 ∧ 2 * |(-1 : Int) - 2 * roundDiv (-1) 2| = 2 ∧ (-8000 : Int) ≤ 8000 ∧
    (putAll defaultImage [(0, 0)]).periodCode = 0 ∧ (putAll defaultImage [(0, 1)]).periodCode = 1 ∧
    (putAll defaultImage [(0, 2)]).periodCode = 2 ∧ (putAll defaultImage [(0, 3)]).periodCode = 3 := by decide +kernel

/-- Roller 0's record with a count pending. -/
def sampled (a : Acquisition) : State :=
  (group .coupled 500).withAcq (State.reset.acq.set 0 { a with pendingSample := some 1000 })

/-- Each case of the settling, at the bounds: the stale limit of the running example is 3, its Vmax 2,000,000. -/
theorem witness_SettlingFollowsCases :
    State.reset.active.pitch 0 = 0 ∧
    ((group .coupled 500).active.pitch 0 ≠ 0 ∧ (group .coupled 500).active.pitch 0 ≠ defaultImage.pitch 0) ∧
    ((group .coupled 500).acq.get 0).pendingSample = none ∧
    (((sampled Acquisition.reset).acq.get 0).pendingSample = some 1000 ∧
      ((sampled Acquisition.reset).acq.get 0).seeded = false) ∧
    (((sampled { Acquisition.reset with seeded := true, k := 4 }).acq.get 0).k = groupOfFour.staleLimit 0 + 1) ∧
    (let a := ((sampled { Acquisition.reset with seeded := true, cLast := 1000 - 31250 }).acq.get 0)
     a.seeded = true ∧ a.k ≠ groupOfFour.staleLimit 0 + 1 ∧
     |roundDiv (positionDelta 1000 a.cLast false * groupOfFour.pitch 0 * groupOfFour.speedScale) (65536 * a.k)| =
       groupOfFour.vmax 0) ∧
    (let a := ((sampled { Acquisition.reset with seeded := true, cLast := 1000 - 31251 }).acq.get 0)
     groupOfFour.vmax 0 <
       |roundDiv (positionDelta 1000 a.cLast false * groupOfFour.pitch 0 * groupOfFour.speedScale) (65536 * a.k)|) := by
  decide +kernel

/-- R14 and R99: at the stale limit 3 FEEDBACK_STALE occurs, at DEGRADE with its roller's exclusion pending; a cause that
stays present leaves its entry's count at 1. -/
theorem test_stale_roller_is_reported_once :
    let s := fun (present : Bool) => (group .coupled 500).withAcq
      (Quad.all { Acquisition.reset with staleCount := 2, feedbackStale := present })
    let one := ((s false).withAcq ((Quad.all Acquisition.reset).set 1 ((s false).acq.get 1))).speedSettling none true
    one.reaction.faults = [⟨.feedbackStale, 1, 0, 0, 1, true⟩] ∧ one.reaction.levels.get 0 = .degrade ∧
    one.reaction.exclusions.get 1 = true ∧ one.reaction.exclusions.get 0 = false ∧
    ((s true).speedSettling none true).reaction = (s true).reaction := by decide +kernel

theorem witness_CurveEvaluation :
    let img := putAll defaultImage [(110, 2), (111, 0), (112, 200000), (127, 66000), (128, 65999)]
    img.curveCount 1 = 2 ∧ (∀ j, j < 1 → img.curveSpeed 1 j < img.curveSpeed 1 (j + 1)) ∧
    (0 : Int) ≤ img.curveSpeed 1 0 ∧ img.curveSpeed 1 1 ≤ (200000 : Int) ∧
    (img.curveSpeed 1 0 < 199999 ∧ img.curveSpeed 1 0 ≤ 199999 ∧ (199999 : Int) < img.curveSpeed 1 1) := by
  decide +kernel

theorem witness_ReferenceFormedFromContributors :
    let s := { group .coupled 500 with acq := speeds }
    (s.active.members 0 = [0, 1, 2, 3] ∧ s.active.isCouplingGroup 0 = true ∧
      ∀ r, 0 < s.active.pitch r ∧ 0 < s.active.weight r ∧ (s.rollerRef.get r).excluded = false) ∧
    (State.reset.active.members 0 = [0] ∧ State.reset.active.isCouplingGroup 0 = false) := by decide +kernel

theorem witness_LostReferenceReleasesGroup :
    let s := (group .coupled 500).withRollerRef (Quad.all { RollerReference.reset with excluded := true })
    s.active.valid = true ∧ (s.coupling.get 0).state.couples = true ∧ s.formsReference 0 = false ∧
    (s.groupRef.get 0).groupLost = false ∧ (s.reaction.levels.get 0).code ≤ 2 ∧
    (s.coupling.get 1).state.couples = false := by decide +kernel

/-- A group of the running example with roller 0 included, its error and its torque record given. -/
def coupling (state : GroupState) (e : Int) (t : RollerTorque) : State :=
  ((group state 500).withRollerRef (State.reset.rollerRef.set 0 { RollerReference.reset with included := true, e := e })).withTorque
    (State.reset.torque.set 0 t)

theorem witness_CouplingTorqueOfIncludedRoller :
    let s := coupling .coupled 90 { RollerTorque.reset with authSide := .upper }
    (s.active.groupOf 0 = some 0 ∧ s.active.isCouplingGroup 0 = true ∧ (s.rollerRef.get 0).included = true ∧
      (s.coupling.get 0).state = .coupled) ∧
    (0 < (s.rollerRef.get 0).e ∧ (s.torque.get 0).authSide = .upper) ∧
    ((coupling .engaging 0 RollerTorque.reset).coupling.get 0).state = .engaging ∧
    s.active.slew 0 ≠ 0 ∧ State.reset.active.slew 0 = 0 := by decide +kernel

theorem witness_ReleaseRampTowardZero :
    let s := coupling .releasing 0 { RollerTorque.reset with qOut := 8 }
    (s.active.groupOf 0 = some 0 ∧ s.active.isCouplingGroup 0 = true ∧ (s.coupling.get 0).state = .releasing ∧
      (s.rollerRef.get 0).included = true ∧ |(s.torque.get 0).qOut| ≤ s.active.releaseStep 0) ∧
    ((coupling .coupled 0 RollerTorque.reset).coupling.get 0).state.atRest = false ∧
    ((coupling .coupled 0 RollerTorque.reset).rollerRef.get 1).included = false ∧
    ((group .detached 1).coupling.get 0).state.atRest = true ∧
    groupOfFour.releaseStep 0 < |((coupling .releasing 0 { RollerTorque.reset with qOut := 9 }).torque.get 0).qOut| ∧
    groupOfFour.releaseStep 0 < |((coupling .releasing 0 { RollerTorque.reset with qOut := -9 }).torque.get 0).qOut| := by
  decide +kernel

theorem witness_GroupAdvancesAfterSettling :
    (let s := (group .engaging 499).withGroupRef (Quad.all { GroupReference.reset with present := true })
     (s.coupling.get 0).state = .engaging ∧ (s.groupRef.get 0).present = true ∧
     (s.coupling.get 0).step < s.active.engageCycles 0) ∧
    (((group .engaging 500).coupling.get 0).step = groupOfFour.engageCycles 0) ∧
    ((group .engaging 500).groupRef.get 0).present = false ∧
    (((group .releasing 500).coupling.get 0).state = .releasing ∧
      ∀ r ∈ groupOfFour.members 0, ((group .releasing 500).couplingStage.torque.get r).qOut = 0) ∧
    (∃ r ∈ groupOfFour.members 0,
      ((coupling .releasing 0 { RollerTorque.reset with qOut := 9 }).couplingStage.torque.get r).qOut ≠ 0) ∧
    ((group .coupled 500).coupling.get 0).state = .coupled ∧ ((group .suspended 1).coupling.get 0).state.atRest = true := by
  decide +kernel

/-- The running example with a level for every group, one composer record for every roller and one demand held. -/
def composing (level : Level) (c : Composer) (torque : Half) : State :=
  { group .coupled 500 with
    reaction := { Reaction.reset with restart := false, levels := Quad.all level }
    composer := Quad.all c
    timer := { Timer.reset with held := some (Quad.all ⟨torque, 1⟩) } }

theorem witness_ComposedTorqueTrimmedAndClamped :
    let s := composing .none (Composer.reset 0) 8001
    (s.timer.held = some (Quad.all ⟨8001, 1⟩) ∧ s.active.tmin 0 ≤ s.active.tmax 0 ∧ s.trimmedTorque 0 = 8001 ∧
      s.active.tmax 0 < s.trimmedTorque 0) ∧
    (composing .none (Composer.reset 0) 8000).trimmedTorque 0 = groupOfFour.tmax 0 ∧
    (composing .none (Composer.reset 0) (-8001)).trimmedTorque 0 < groupOfFour.tmin 0 ∧
    (∃ g, groupOfFour.groupOf 0 = some g ∧ (composing .safe (Composer.reset 0) 8001).reaction.levels.get g = .safe) := by
  decide +kernel

/-- R76: after a commit copy a last written torque outside the new range is taken at its bound, and a RAMP or AT_CLEAR
goes on as a ramp from there, also without SAFE, when it turns to RETURN. -/
theorem test_commit_copy_clamps_the_records :
    let c := fun (p : Phase) (w : Int) => { Composer.reset 0 with phase := p, lastWritten := w, rampStart := w }
    let n := fun (l : Level) (p : Phase) (w : Int) =>
      ((composing l (c p w) 0).compositionStage (some defaultImage)).composer.get 0
    (n .safe .atClear 8001).rampStart = 8000 ∧ (n .safe .atClear 8001).lastWritten = 7960 ∧
    (n .safe .atClear 8001).phase = .ramp ∧ (n .none .ramp (-9000)).lastWritten = -7960 ∧
    (n .none .ramp (-9000)).phase = .return_ := by decide +kernel

/-- R69: the clamp run that reaches Nsat is one occurrence of TORQUE_SATURATION, at NOTE; a standing cause reports
nothing, and the unclamped composition ends it and lowers no level. -/
theorem test_saturation_is_reported_once :
    let c := fun (present : Bool) => { Composer.reset 0 with runCount := 254, saturation := present }
    let one := fun (present : Bool) (torque : Half) =>
      ((composing .none (Composer.reset 0) torque).withComposer
        ((Quad.all (Composer.reset 0)).set 0 (c present))).compositionStage none
    (one false 8001).reaction.faults = [⟨.torqueSaturation, 0, 0, 0, 1, true⟩] ∧
    (one false 8001).reaction.levels.get 0 = .note ∧ (one true 8001).reaction.faults = [] ∧
    (let next := (one false 8001).withTimer { Timer.reset with held := some (Quad.all (⟨8000, 1⟩ : Slot)) }
     (next.compositionStage none).reaction.faults = [⟨.torqueSaturation, 0, 0, 0, 1, false⟩] ∧
     (next.compositionStage none).reaction.levels.get 0 = .note) := by decide +kernel

theorem witness_SubstitutionWalksToClear :
    let c := fun (p : Phase) (w : Int) => { Composer.reset 0 with phase := p, lastWritten := w }
    ((composing .safe (c .off 40) 0).timer.held = some (Quad.all ⟨0, 1⟩) ∧
      (∃ g, groupOfFour.groupOf 0 = some g ∧ (composing .safe (c .off 40) 0).reaction.levels.get g = .safe) ∧
      |groupOfFour.clearTorque 0 - ((composing .safe (c .off 40) 0).composer.get 0).lastWritten| ≤ groupOfFour.safeStep) ∧
    (groupOfFour.safeStep < |groupOfFour.clearTorque 0 - ((composing .safe (c .ramp 41) 0).composer.get 0).lastWritten|) ∧
    ((composing .safe (c .atClear 0) 0).composer.get 0).phase = .atClear ∧
    ((∀ g, (composing .none (c .off 0) 0).reaction.levels.get g ≠ .safe) ∧
      ((composing .none (c .off 0) 0).composer.get 0).phase = .off) ∧
    (((composing .none (c .atClear 0) 41).composer.get 0).phase ≠ .off ∧
      groupOfFour.safeStep < |(composing .none (c .atClear 0) 41).composedTorque 0|) ∧
    |(composing .none (c .atClear 0) 40).composedTorque 0| ≤ groupOfFour.safeStep ∧
    ((composing .safe (c .ramp 8001) 0).active.tmax 0 ≠ defaultImage.tmax 0 ∧
      ((composing .safe (c .ramp 8001) 0).composer.get 0).phase = .ramp) := by decide +kernel

/-- The running example with roller 0 included, M = 4 and a monitor record. -/
def monitored (m : Monitor) (e : Int) : State :=
  (withActive (coupling .coupled e RollerTorque.reset) (putAll groupOfFour [(78, 1)])).withMonitor (Quad.all m)

theorem witness_MonitorAveragesBlocks :
    let s := monitored { Monitor.reset with blockFill := 3, blockSum := 9700 } 3103
    (s.active.groupOf 0 = some 0 ∧ (s.coupling.get 0).state = .coupled ∧ (s.rollerRef.get 0).included = true ∧
      (s.monitor.get 0).blockFill + 1 = s.active.blockLength 0) ∧
    |truncDiv ((s.monitor.get 0).blockSum + (s.rollerRef.get 0).e) (s.active.blockLength 0)| = s.active.w2 0 ∧
    ((monitored Monitor.reset 0).monitor.get 0).blockFill + 1 ≠ s.active.blockLength 0 ∧
    (s.active.w2 0 < |truncDiv ((s.monitor.get 0).blockSum + 3104) (s.active.blockLength 0)|) ∧
    (s.rollerRef.get 1).included = false := by decide +kernel

/-- R83, R57 and R86: at the persistence count the result outside W2 is a SYNC_FAULT, which takes the COUPLED group to
RELEASING with the marker set; the next stage ends the cause and lowers no level. -/
theorem witness_sync_fault_releases_group :
    let only := fun (s : State) (m : Monitor) => s.withMonitor ((Quad.all Monitor.reset).set 0 m)
    let s := only (monitored Monitor.reset 3104)
      { Monitor.reset with blockFill := 3, blockSum := 9700, latest := some 3201, persistence := 254, syncWarn := true }
    let next := (only s.monitoringStage { Monitor.reset with syncFault := true }).monitoringStage
    (s.active.valid = true ∧ s.active.groupOf 0 = some 0 ∧ (s.coupling.get 0).state = .coupled ∧
      (s.reaction.levels.get 0).code ≤ 2 ∧ (s.monitor.get 0).syncFault = false ∧
      (s.monitoringStage.monitor.get 0).syncFault = true) ∧
    (s.monitoringStage.coupling.get 0 = ⟨.releasing, 500, true⟩ ∧ s.monitoringStage.reaction.levels.get 0 = .hold) ∧
    (next.monitor.get 0 = Monitor.reset ∧ next.reaction.faults = [⟨.syncFault, 0, 0, 0, 1, false⟩] ∧
      next.reaction.levels.get 0 = .hold) := by decide +kernel

/-- R84: |a| above Afault is a POSITION_FAULT, one below is none. -/
theorem witness_position_fault_occurs :
    let s := fun (a : Int) => coupling .coupled 0 { RollerTorque.reset with a := a }
    ((s 1000001).active.valid = true ∧ ((s 1000001).reaction.levels.get 0).code ≤ 2 ∧
      ((s 1000001).monitor.get 0).positionFault = false ∧
      ((s 1000001).monitoringStage.monitor.get 0).positionFault = true) ∧
    ((s 1000000).monitoringStage.monitor.get 0).positionFault = false := by decide +kernel

theorem witness_HistoryStageRecords :
    State.reset.history.state = .recording ∧
    (recorded.history.state = .postTrigger ∧ recorded.history.remainder = 1) ∧
    (⟨[], .postTrigger, 2⟩ : History).remainder = 2 ∧ (⟨[], .frozen, 0⟩ : History).state = .frozen ∧
    (List.replicate 64 (⟨0, Quad.all ⟨0, 0, 0, 0, false, false, false, false⟩⟩ : CycleRecord)).length = 64 := by decide

/-! Requests into an empty queue. -/

theorem takesAtOnce_reset : State.reset.takesAtOnce := ⟨rfl, rfl⟩
theorem takesAtOnce_setup : setup.takesAtOnce := ⟨rfl, rfl⟩
theorem takesAtOnce_group : (group .coupled 500).takesAtOnce := ⟨rfl, rfl⟩

theorem witness_ReadReturnsObjectWords :
    State.reset.takesAtOnce ∧
    (1 ≤ (area 1 246 8 0 0).object.toNat ∧ (area 1 246 8 0 0).count.toNat = 8 ∧
      (area 1 246 8 0 0).index.toNat + 8 - 1 ≤ 253) ∧
    (¬ (area 1 247 8 0 0).index.toNat + 8 - 1 ≤ 253) ∧ (¬ 1 ≤ (area 0 0 1 0 0).object.toNat) ∧
    ¬ (area 7 0 1 0 0).object.toNat ≤ 6 := ⟨takesAtOnce_reset, by decide, by decide, by decide, by decide⟩

theorem witness_ReadableObjectLayouts :
    lost.reaction.faults[0]? = some ⟨.linkLost, 0, 0, 0, 1, true⟩ ∧ 8 * lost.reaction.faults.length ≤ 8 ∧
    recorded.history.ring[0]? = some ⟨1, Quad.all ⟨0, 0, 0, 0, false, false, false, false⟩⟩ ∧
    32 * recorded.history.ring.length ≤ 32 := by decide

theorem witness_DescribeAndUnknownKindAnswered :
    State.reset.takesAtOnce ∧ (1 ≤ (area 0 4 8 0 0).count.toNat ∧ (area 0 4 8 0 0).index.toNat + 8 - 1 ≤ 11) ∧
    (¬ (area 0 5 8 0 0).index.toNat + 8 - 1 ≤ 11) ∧ isUnknownKind 0 = true ∧ isUnknownKind 12 = true :=
  ⟨takesAtOnce_reset, by decide, by decide, by decide, by decide⟩

/-- A transfer open on the run given, at an index. -/
def transferring (s : State) (first last : Nat) (current : Int) : State :=
  s.withImages { s.images with transfer := ⟨true, first, last, current, 0⟩ }

theorem witness_TransferOpensAndCloses :
    State.reset.takesAtOnce ∧ (transferring setup 6 9 5).takesAtOnce ∧
    (State.reset.images.transfer.isOpen = false ∧ (253 < (254 : Nat)) ∧ (0 : Nat) ≤ 253) ∧
    (isMaintenance 5 = true ∧ State.reset.images.setupLine = false) ∧
    (∀ i, 6 ≤ i → i ≤ 9 → isMaintenance i = false) ∧ (transferring setup 6 9 5).images.transfer.isOpen = true := by
  refine ⟨takesAtOnce_reset, ⟨rfl, rfl⟩, by decide, by decide, ?_, rfl⟩
  intro i h1 h2
  interval_cases i <;> decide

theorem witness_TransferDataWritesStaging :
    (State.reset.takesAtOnce ∧ State.reset.transferOk ∧ State.reset.images.transfer.isOpen = false) ∧
    ((transferring setup 10 24 17).takesAtOnce ∧ (transferring setup 10 24 17).transferOk ∧
      (transferring setup 10 24 17).images.transfer.isOpen = true ∧ (transferring setup 10 24 17).images.setupLine = true ∧
      (area 0 0 8 0 0).count.toNat = 8 ∧ (area 0 0 9 0 0).count.toNat = 9 ∧ (area 0 0 0 0 0).count.toNat = 0) ∧
    ((transferring State.reset 10 24 17).takesAtOnce ∧ (transferring State.reset 10 24 17).transferOk ∧
      (17 : Int) < (18 : Nat) ∧ ((18 : Nat) : Int) ≤ 17 + 7 ∧ isMaintenance 18 = true ∧
      (transferring State.reset 10 24 17).images.setupLine = false) :=
  ⟨⟨takesAtOnce_reset, fun h => absurd h (by decide), rfl⟩,
    ⟨⟨rfl, rfl⟩, fun _ => by decide, rfl, rfl, by decide, by decide, by decide⟩,
    ⟨⟨rfl, rfl⟩, fun _ => by decide, by decide, by decide, by decide, rfl⟩⟩

/-- The COMMIT being checked, with an expected check word. -/
def expecting (expected : Word) : State :=
  committing.withImages { committing.images with commit := ⟨.checking, expected, 0, 0⟩ }

theorem next_ne (x : Word) : x + 1 ≠ x := by
  intro h
  simp at h

theorem witness_CommitJudgedAndChecked :
    (transferring setup 6 9 5).takesAtOnce ∧
    ((group .coupled 500).takesAtOnce ∧ (group .coupled 500).images.transfer.isOpen = false ∧
      ((group .coupled 500).coupling.get 0).state ≠ .detached ∧ ((group .coupled 500).coupling.get 0).state ≠ .suspended) ∧
    (let s := withActive State.reset groupOfFour
     s.takesAtOnce ∧ (∀ g, (s.coupling.get g).state = .detached) ∧ isMaintenance 15 = true ∧
     s.images.staging.field 15 ≠ s.images.active.field 15 ∧ s.images.setupLine = false) ∧
    (setup.takesAtOnce ∧ setup.images.setupLine = true ∧ ∀ g, (setup.coupling.get g).state = .detached) ∧
    State.reset.images.commit.state ≠ .checking :=
  ⟨⟨rfl, rfl⟩, ⟨takesAtOnce_group, by decide +kernel⟩, ⟨⟨rfl, rfl⟩, by decide +kernel⟩,
    ⟨takesAtOnce_setup, by decide⟩, by decide⟩

/-- A wrong check word; the right one with an image that passes; and images that fail first at field 0 and at 253. -/
theorem witness_check_ends :
    (∀ e, (expecting e).alive = true ∧ (expecting e).images.commit.state = .checking ∧
      (expecting e).service.queue = ⟨5, area 0 0 0 0 0⟩ :: [] ∧ (expecting e).images.commit.expected = e ∧
      (expecting e).images.staging = defaultImage) ∧
    (∃ e : Word, e ≠ (crc16 (bytesOfWords defaultImage.toList)).setWidth 32) ∧
    (∃ e : Word, e = (crc16 (bytesOfWords defaultImage.toList)).setWidth 32) ∧
    (List.range 254).all (fun i => !fieldFails defaultImage i) = true ∧
    fieldFails (putAll defaultImage [(0, 4)]) 0 = true ∧
    (fieldFails (putAll defaultImage [(253, 5)]) 253 = true ∧
      (List.range 253).all (fun j => !fieldFails (putAll defaultImage [(253, 5)]) j) = true) :=
  ⟨fun _ => ⟨rfl, rfl, rfl, rfl, rfl⟩, ⟨_, next_ne _⟩, ⟨_, rfl⟩, by decide +kernel, by decide +kernel, by decide +kernel⟩

/-- The COMMIT in a state, with the computations its check has lasted. -/
def committingFor (c : CommitState) (age : Nat) : State :=
  committing.withImages { committing.images with commit := ⟨c, 0, 0, age⟩ }

/-- A pending exclusion of roller 0 alone. -/
def excluding : State :=
  State.reset.withReaction { Reaction.reset with exclusions := (Quad.all false).set 0 true }

theorem witness_ComputationAppliesWritesAndCopies :
    (let taken := fun (s : State) (e : MidEvent) (before : State → State) =>
       ((before (s.startCycle (.substitute 0))).withClock e.elapsed).happens e.event
     (taken (restarting State.reset) ⟨0, 0, .feedbackSent⟩ id).timer.computing = none ∧
     (taken State.reset ⟨6, 5, .estopAssert⟩ fun u => u.referenceStage).timer.computing ≠ none) ∧
    (excluding.reaction.exclusions.get 0 = true ∧ excluding.reaction.exclusions.get 1 = false) ∧
    State.reset.images.commit.state = .none ∧
    ((committingFor .checking 6).images.commit.state = .checking ∧ (committingFor .checking 6).images.commit.age + 1 < 8) ∧
    ((committingFor .checking 7).alive = true ∧ (committingFor .checking 7).images.commit.state = .checking ∧
      8 ≤ (committingFor .checking 7).images.commit.age + 1) ∧
    ((committingFor .ready 0).images.commit.state = .ready ∧
      (committingFor .ready 0).service.queue = ⟨5, area 0 0 0 0 0⟩ :: [] ∧
      (⟨5, area 0 0 0 0 0⟩ : Request).code = 5) := by decide +kernel

/-- A Live window open on fields 74 and 75 of the running example. -/
def windowed : State :=
  let s := group .coupled 500
  s.withImages { s.images with liveLower := 73, liveUpper := 76 }

theorem witness_LiveWindowAndLiveWrite :
    (State.reset.takesAtOnce ∧ State.reset.images.setupLine = false) ∧
    (setup.takesAtOnce ∧ setup.images.setupLine = true ∧ (area 0 0 0 254 254).data.getD 0 0 = 254 ∧
      254 < ((area 0 0 0 255 0).data.getD 0 0).toNat) ∧
    (windowed.takesAtOnce ∧ ¬ (windowed.images.liveLower < 73) ∧ ¬ (76 < windowed.images.liveUpper) ∧
      windowed.images.liveLower < 74 ∧ 75 < windowed.images.liveUpper ∧ isLive 75 = true ∧ isLive 74 = false) ∧
    (fieldFails (applyLive windowed.images.active [⟨75, 3201⟩]) 76 = true ∧
      (List.range 76).all (fun j => !fieldFails (applyLive windowed.images.active [⟨75, 3201⟩]) j) = true) ∧
    (List.range 254).all (fun i => !fieldFails (applyLive windowed.images.active [⟨75, 3200⟩]) i) = true := by
  refine ⟨⟨takesAtOnce_reset, rfl⟩, ⟨takesAtOnce_setup, rfl, by decide, by decide⟩,
    ⟨⟨rfl, rfl⟩, by decide, by decide, by decide, by decide, by decide, by decide⟩, by decide +kernel, by decide +kernel⟩

theorem witness_CalibrationStoreWritten :
    ((group .coupled 500).takesAtOnce ∧ ((group .coupled 500).coupling.get 0).state = .coupled) ∧
    (State.reset.takesAtOnce ∧ State.reset.images.setupLine = false ∧ ∀ g, (State.reset.coupling.get g).state = .detached) ∧
    (setup.takesAtOnce ∧ setup.images.setupLine = true ∧ setup.images.calibrationValid = false) ∧
    State.reset.images.writing = none ∧
    (writing.alive = true ∧ writing.images.writing = some ⟨List.replicate 37 0, 1⟩ ∧
      writing.service.queue = ⟨9, area 0 0 0 0 0⟩ :: []) :=
  ⟨⟨takesAtOnce_group, rfl⟩, ⟨takesAtOnce_reset, by decide⟩, ⟨takesAtOnce_setup, rfl, rfl⟩, rfl, by decide⟩

/-- Four requests held. -/
def full : State :=
  State.reset.withService { Service.reset with
    queue := List.replicate 4 ⟨5, area 0 0 0 0 0⟩, progress := some .waiting }

theorem witness_RequestsQueueOrOverrun :
    (committing.alive = true ∧ committing.service.queue ≠ [] ∧ committing.service.queue.length < 4) ∧
    (full.alive = true ∧ 4 ≤ full.service.queue.length) ∧
    (State.reset.processes State.reset.clock ∧ State.reset.service.queue.length < 4 ∧ full.processes full.clock ∧
      goodDemand (demandBytes 5 1) = true ∧ destinationOf (demandBytes 5 1) = 1) ∧
    (carrier []).slots.length = 12 ∧ (State.reset.withResetHeld true).alive = false :=
  ⟨by decide, by decide, ⟨processes_reset, by decide, ⟨rfl, ⟨rfl, rfl⟩, rfl, fun h => by cases h⟩, by decide +kernel⟩,
    rfl, rfl⟩

theorem witness_RestartAndGroupControlAtHead :
    State.reset.takesAtOnce ∧ (group .coupled 500).takesAtOnce ∧
    ((area 0 0 0 0x10000 0).data.getD 0 0).getLsbD 16 = true ∧
    (∀ i, 16 ≤ i → i < 32 → ((area 0 0 0 0xFFFF 0).data.getD 0 0).getLsbD i = false) := by
  refine ⟨takesAtOnce_reset, takesAtOnce_group, by decide, ?_⟩
  intro i h1 h2
  interval_cases i <;> decide

/-- A GROUP_CONTROL for CLEAR_RESTART waiting at the head. -/
def controlled : State :=
  State.reset.withService
    { Service.reset with queue := [functionRequest .clearRestart 1], progress := some .waiting }

theorem witness_GroupSetsJudgedTogether :
    (controlled.service.queue = functionRequest .clearRestart 1 :: [] ∧ controlled.service.progress = some .waiting ∧
      (functionRequest .clearRestart 1).code = 8 ∧ controlled.images.commit.state = .none) ∧
    (inSet ((functionRequest .clearRestart 1).dataWord 0) .clearRestart = true ∧
      controlled.reaction.restart = true) ∧
    (inSet 0x11 (.engage 0) = true ∧ inSet 0x11 (.release 0) = true) ∧
    (inSet 0x100 (.clear 0) = true ∧ ((group .suspended 1).coupling.get 0).state = .suspended ∧
      (((group .suspended 1).performSet 0x100).reaction.levels.get 0).code ≤ 1) ∧
    ((group .detached 1).performSet 0x1).coupling.get 0 = ⟨.engaging, 1, false⟩ := by decide +kernel

/-- R53 and R54: an ENGAGE in conflict with a RELEASE is rejected, and clears the group's marks all the same. -/
theorem test_conflicting_engage_clears_marks :
    let s := (group .detached 1).withRollerRef (Quad.all { RollerReference.reset with excluded := true })
    let t := s.performSet 0x11
    (t.rollerRef.get 0).excluded = false ∧ (t.coupling.get 0).state = .detached ∧
    (s.setResponse ⟨8, area 0 0 0 0x11 0⟩).outcome = .refusedState := by decide +kernel

/-! A function command at its own computation. -/

theorem takesFunction_of_link {s : State} (h : s.alive = true ∧ s.idle ∧ s.demandInPassage = false)
    (hl : s.timer.link ≠ .lost) (hq : s.service.queue = []) (hc : s.images.commit.state = .none)
    (during : List MidEvent) : s.takesFunction (carrier during) :=
  ⟨⟨h.1, h.2.1, h.2.2, fun k => absurd k hl⟩, rfl, hq, hc⟩

theorem takesFunction_reset : State.reset.takesFunction (carrier []) :=
  takesFunction_of_link ⟨rfl, ⟨rfl, rfl⟩, rfl⟩ (by decide) rfl rfl []
theorem takesFunction_group (state : GroupState) (step : Nat) (during : List MidEvent) :
    (group state step).takesFunction (carrier during) :=
  takesFunction_of_link ⟨rfl, ⟨rfl, rfl⟩, rfl⟩ (fun h => by cases h) rfl rfl during
theorem takesFunction_recorded : recorded.takesFunction (carrier []) :=
  takesFunction_of_link ⟨rfl, ⟨rfl, rfl⟩, rfl⟩ (by decide) rfl rfl []

/-- The state in which the ENGAGE of group 0 is judged. -/
def judged (s : State) (f : GroupFunction) : State := s.atFunctions f (carrier [])

theorem witness_EngageAndReleaseJudged :
    ((group .detached 1).takesFunction (carrier [⟨6, 1, .estopAssert⟩]) ∧
      lostAfterSending.takesFunction { carrier [] with elapsed := 500 }) ∧
    (let p := judged (group .detached 1) (.engage 0)
     (p.coupling.get 0).state = .detached ∧ p.reaction.restart = false ∧ (p.reaction.levels.get 0).code ≤ 1 ∧
     p.timer.link = .up ∧ 2 ≤ (p.active.configuredMembers 0).length ∧ 1 ≤ (p.active.weightedMembers 0).length ∧
     ¬ 2 ≤ (p.active.configuredMembers 1).length ∧ (p.coupling.get 1).state = .detached) ∧
    (State.reset.takesFunction (carrier []) ∧ (judged State.reset (.engage 0)).reaction.restart = true) ∧
    ((group .coupled 500).takesFunction (carrier []) ∧
      ((judged (group .coupled 500) (.release 0)).coupling.get 0).state = .coupled) ∧
    ((group .engaging 1).takesFunction (carrier []) ∧
      ((judged (group .engaging 1) (.release 0)).coupling.get 0).state = .engaging) :=
  ⟨⟨takesFunction_group _ _ _, processes_returning, rfl, rfl, rfl⟩, by decide +kernel,
    ⟨takesFunction_reset, by decide +kernel⟩, ⟨takesFunction_group _ _ _, by decide +kernel⟩,
    takesFunction_group _ _ _, by decide +kernel⟩

theorem witness_ClearsRemoveAndRecompute :
    (group .suspended 1).takesFunction (carrier []) ∧
    ((∃ g, GroupFunction.clear 0 = .clear g ∧ some 0 = some g ∧ (256 : Word) = BitVec.twoPow 32 (8 + g.val)) ∧
      ((judged (group .suspended 1) (.clear 0)).coupling.get 0).state = .suspended) ∧
    (GroupFunction.clearPart = .clearPart ∧ (none : Option Chan) = none ∧ (4096 : Word) = 4096) :=
  ⟨takesFunction_group _ _ _, ⟨⟨0, rfl, rfl, by decide⟩, by decide +kernel⟩, rfl, rfl, rfl⟩

theorem witness_HistoryAndRestartFunctions :
    (State.reset.takesFunction (carrier []) ∧ State.reset.history.state = .recording) ∧
    (recorded.takesFunction (carrier []) ∧ recorded.history.state ≠ .recording) :=
  ⟨⟨takesFunction_reset, rfl⟩, takesFunction_recorded, by decide⟩

/-- R53, R54, R55, R109 and R168: an ENGAGE is answered with the count of the computation that performs it, whose stages
follow: the engage step advances and the record is added. -/
theorem test_engage_is_performed_at_its_computation :
    let t := after (.engage 0 (carrier [])) ({ group .detached 1 with acq := speeds })
    t.service.ready = some ⟨8, 1, .done, 0, 0, [1, 0, 0, 1, 0, 0, 0, 0]⟩ ∧ t.timer.cycleCount = 1 ∧
    (t.coupling.get 0).state = .engaging ∧ (t.coupling.get 0).step = 2 ∧ t.history.ring.length = 1 := by decide +kernel

end Sys2Proof.Tests
end

section
/-! The arithmetic of R1 and R2, and the position delta of R7. -/

namespace Sys2Proof.Machine

/-! ### Rounding (R1) -/

theorem roundDiv_of_nonneg {n : Int} (d : Int) (hn : 0 ≤ n) : roundDiv n d = (2 * n + d) / (2 * d) :=
  if_neg (not_lt.mpr hn)

/-- Rounding is symmetric about zero, so every fact about it follows from the dividends that are not negative. -/
theorem roundDiv_neg {n d : Int} (hn : 0 ≤ n) (hd : 0 < d) : roundDiv (-n) d = -roundDiv n d := by
  rcases hn.eq_or_lt with rfl | hpos
  · have h0 : d / (2 * d) = 0 := Int.ediv_eq_zero_of_lt hd.le (by omega)
    simp [roundDiv, h0]
  · rw [roundDiv_of_nonneg d hn]
    simp [roundDiv, hpos]

/-- What rounding leaves over lies in the half-open interval from `-d / 2` to `d / 2`: a tie goes up. -/
theorem roundDiv_remainder {n d : Int} (hn : 0 ≤ n) (hd : 0 < d) :
    -d ≤ 2 * (n - d * roundDiv n d) ∧ 2 * (n - d * roundDiv n d) < d := by
  rw [roundDiv_of_nonneg d hn]
  have hsplit := Int.mul_ediv_add_emod (2 * n + d) (2 * d)
  have hlow := Int.emod_nonneg (2 * n + d) (show 2 * d ≠ 0 by omega)
  have hhigh := Int.emod_lt_of_pos (2 * n + d) (show 0 < 2 * d by omega)
  rw [mul_assoc] at hsplit
  omega

/-- Half of `d` at most is left over, and at a tie the rounded value is the one farther from zero. -/
def RoundsToNearest (n d : Int) : Prop :=
  2 * |n - d * roundDiv n d| ≤ d ∧ (2 * |n - d * roundDiv n d| = d → |n| < |d * roundDiv n d|)

theorem roundsToNearest_of_nonneg {n d : Int} (hn : 0 ≤ n) (hd : 0 < d) : RoundsToNearest n d := by
  obtain ⟨hlow, hhigh⟩ := roundDiv_remainder hn hd
  rcases abs_cases (n - d * roundDiv n d) with ⟨habs, _⟩ | ⟨habs, hneg⟩
  · exact ⟨by omega, fun htie => by omega⟩
  · refine ⟨by omega, fun _ => ?_⟩
    rw [abs_of_nonneg hn]
    exact lt_of_lt_of_le (by omega) (le_abs_self _)

theorem roundsToNearest_neg {n d : Int} (hn : 0 ≤ n) (hd : 0 < d) (h : RoundsToNearest n d) :
    RoundsToNearest (-n) d := by
  have hrest : -n - d * roundDiv (-n) d = -(n - d * roundDiv n d) := by rw [roundDiv_neg hn hd]; ring
  unfold RoundsToNearest
  rw [hrest, roundDiv_neg hn hd, mul_neg, abs_neg, abs_neg, abs_neg]
  exact h

theorem roundsToNearest (n : Int) {d : Int} (hd : 0 < d) : RoundsToNearest n d := by
  rcases le_total 0 n with hn | hn
  · exact roundsToNearest_of_nonneg hn hd
  · have hn' : 0 ≤ -n := by omega
    simpa using roundsToNearest_neg hn' hd (roundsToNearest_of_nonneg hn' hd)

/-! ### Truncation and clamping (R1) -/

theorem abs_truncDiv (n : Int) {d : Int} (hd : 0 < d) : |truncDiv n d| = |n| / d := by
  have hmag : (truncDiv n d).natAbs = n.natAbs / d.natAbs := Int.natAbs_tdiv n d
  rw [Int.abs_eq_natAbs, hmag, Int.natCast_div, Int.natAbs_of_nonneg hd.le, Int.abs_eq_natAbs]

/-- A truncated quotient never has the sign opposite to its dividend's. -/
theorem mul_truncDiv_nonneg (n : Int) {d : Int} (hd : 0 < d) : 0 ≤ n * truncDiv n d := by
  rcases le_total 0 n with hn | hn
  · exact mul_nonneg hn (Int.tdiv_nonneg hn hd.le)
  · have hq : 0 ≤ -truncDiv n d := by
      rw [truncDiv, ← Int.neg_tdiv]
      exact Int.tdiv_nonneg (by omega) hd.le
    exact mul_nonneg_of_nonpos_of_nonpos hn (by omega)

/-- No value of the range lies nearer than the clamped one. -/
theorem clamp_nearest {lo hi y : Int} (x : Int) (hlo : lo ≤ y) (hhi : y ≤ hi) : |x - clamp lo hi x| ≤ |x - y| := by
  unfold clamp
  split
  case isTrue hbelow =>
    rw [abs_of_neg (by omega), abs_of_neg (by omega)]; omega
  case isFalse =>
    split
    case isTrue habove =>
      rw [abs_of_pos (by omega), abs_of_pos (by omega)]; omega
    case isFalse =>
      rw [sub_self, abs_zero]; exact abs_nonneg _

/-! ### Period constants (R2) -/

theorem periodConstants (img : Image) :
    (img.periodCode = 0 → img.period = 250 ∧ img.speedScale = 64) ∧
    (img.periodCode = 1 → img.period = 500 ∧ img.speedScale = 32) ∧
    (img.periodCode = 2 → img.period = 1000 ∧ img.speedScale = 16) ∧
    (img.periodCode = 3 → img.period = 2000 ∧ img.speedScale = 8) := by
  unfold Image.period Image.speedScale
  refine ⟨?_, ?_, ?_, ?_⟩ <;> intro hcode <;> rw [hcode] <;> exact ⟨rfl, rfl⟩

/-! ### The position delta (R1, R7) -/

theorem signedDiff_range (a b : Word) : -(2 ^ 31) ≤ signedDiff a b ∧ signedDiff a b ≤ 2 ^ 31 - 1 :=
  ⟨BitVec.le_toInt _, Int.le_sub_one_of_lt BitVec.toInt_lt⟩

theorem signedDiff_eq_bmod (a b : Word) : signedDiff a b = ((a.toNat : Int) - b.toNat).bmod (2 ^ 32) := by
  rw [signedDiff, BitVec.toInt_sub, BitVec.toInt_eq_toNat_bmod, BitVec.toInt_eq_toNat_bmod, Int.sub_bmod_bmod,
    Int.bmod_sub_bmod]

/-- The signed difference is the plain one, up to whole turns of the counter. -/
theorem signedDiff_congr (a b : Word) : ∃ m : Int, signedDiff a b = a.toNat - b.toNat + m * 2 ^ 32 := by
  refine ⟨-((a.toNat : Int) - b.toNat).bdiv (2 ^ 32), ?_⟩
  have hturns := Int.bmod_add_bdiv ((a.toNat : Int) - b.toNat) (2 ^ 32)
  rw [← signedDiff_eq_bmod] at hturns
  omega

theorem positionDelta_straight (count last : Word) : positionDelta count last false = signedDiff count last := rfl

theorem positionDelta_invert (count last : Word) :
    positionDelta count last true = -positionDelta count last false := rfl

/-- Settles O34: the rounding by its symmetry about zero and the remainder it leaves, the truncation by its magnitude and
sign, the position delta as the balanced remainder modulo 2^32. -/
theorem arithmeticPeriodAndDelta : Obligations.ArithmeticPeriodAndDelta := by
  refine ⟨fun n d hd => roundsToNearest n hd, fun n d hd => ?_, fun lo hi x h => ?_, periodConstants, fun c last => ?_⟩
  · rw [abs_truncDiv n hd]
    exact ⟨Int.ediv_mul_le _ hd.ne', Int.lt_ediv_add_one_mul_self _ hd, mul_truncDiv_nonneg n hd⟩
  · obtain ⟨hlo, hhi⟩ := clamp_within h x
    exact ⟨hlo, hhi, fun y => clamp_nearest x⟩
  · rw [positionDelta_invert, positionDelta_straight]
    obtain ⟨hlo, hhi⟩ := signedDiff_range c last
    exact ⟨⟨hlo, hhi, signedDiff_congr c last⟩, rfl⟩

end Sys2Proof.Machine
end

section
/-! The Drive port's next transmission: the end of a Demand's passage (R4, R120, R121). -/

namespace Sys2Proof.Machine

/-! ### A Demand that awaits its computation (R123, R133) -/

theorem exec_demandSent {s : State} (h : s.alive = true) (elapsed : Nat) (course : Course) :
    exec (.demandSent elapsed course) s = .next (((s.tick elapsed).finishDemand).runAccepted course 0) := by
  show Host.Outcome.next _ = _
  rw [if_pos h]

theorem State.runAccepted_of_none {s : State} (h : s.cellPort.accepted = none) (course : Course) (point : Nat) :
    s.runAccepted course point = s := by
  simp [State.runAccepted, h]

/-! ### What passes at the Drive port (R120, R121) -/

/-- A telegram received at the Cell port is in passage while it awaits its computation, is being sent or is ready. -/
theorem State.demandInPassage_eq_true_iff (s : State) :
    s.demandInPassage = true ↔ s.cellPort.accepted.isSome = true ∨
      ∃ o ∈ s.drivePort.sending.toList ++ s.drivePort.ready, o.origin ≠ .substitute := by
  simp only [State.demandInPassage, Bool.or_eq_true, List.any_eq_true, bne_iff_ne]

theorem State.sendNext_of_nil {s : State} (h : s.drivePort.ready = []) : s.sendNext = s := by
  simp [State.sendNext, h]

theorem State.sendNext_of_cons {s : State} {o : Outgoing} {rest : List Outgoing} (h : s.drivePort.ready = o :: rest) :
    s.sendNext = (s.withDrivePort { s.drivePort with ready := rest }).transmit o s.clock := by
  simp [State.sendNext, h]

theorem State.beginWaitingDemand_of_none {s : State} (h : s.cellPort.waiting = none) : s.beginWaitingDemand = s := by
  simp [State.beginWaitingDemand, h]

theorem State.beginWaitingDemand_of_passing {s : State} (h : s.demandInPassage = true) :
    s.beginWaitingDemand = s := by
  unfold State.beginWaitingDemand
  cases s.cellPort.waiting with
  | none => rfl
  | some d => exact if_pos h

theorem State.beginWaitingDemand_of_free {s : State} {d : Received} (hw : s.cellPort.waiting = some d)
    (hp : s.demandInPassage = false) :
    s.beginWaitingDemand = (s.withCellPort { s.cellPort with waiting := none }).demandPassage d.bytes d.moment := by
  simp [State.beginWaitingDemand, hw, hp]

/-- The start of a transmission: a poisoned forward changes no record, any other telegram updates the port's records and
opens the window on its sequence (R4, R121). -/
theorem State.transmit_eq (s : State) (o : Outgoing) (moment : Nat) :
    s.transmit o moment =
      if o.origin = .poisoned then s.withDrivePort { s.drivePort with sending := some o }
      else ((s.withDrivePort { s.drivePort with
          sending := some o, lastSeq := some (sequenceOf o.bytes), lastTx := some moment }).withWindow
        (some (sequenceOf o.bytes))).withAcq (Quad.ofFn fun r => { s.acq.get r with taken := false }) := by
  unfold State.transmit
  cases o.origin <;> rfl

/-- A transmission that begins takes the port's sending place and leaves the telegrams that are ready. -/
theorem State.transmit_port (s : State) (o : Outgoing) (moment : Nat) :
    (s.transmit o moment).drivePort.sending = some o ∧
    (s.transmit o moment).drivePort.ready = s.drivePort.ready := by
  rw [State.transmit_eq]
  split <;> exact ⟨rfl, rfl⟩

/-! ### The end of a passage -/

theorem State.finishDemand_of_silent {s : State} (h : s.drivePort.sending = none) : s.finishDemand = s := by
  simp [State.finishDemand, h]

theorem State.finishDemand_of_sending {s : State} (h : s.drivePort.sending ≠ none) :
    s.finishDemand =
      (s.withDrivePort { s.drivePort with sending := none }).sendNext.beginWaitingDemand := by
  obtain ⟨o, ho⟩ := Option.ne_none_iff_exists'.mp h
  simp [State.finishDemand, ho]

/-- Settles O28: the next ready telegram is sent, and what then is in passage decides whether a waiting Demand begins. -/
theorem demandSentStartsNext : Obligations.DemandSentStartsNext := by
  refine ⟨fun s elapsed course ha ⟨_, hacc⟩ hs => ?_, fun s elapsed course ha ⟨_, hacc⟩ hs => ?_⟩
  · rw [exec_demandSent ha, State.finishDemand_of_silent (s := s.tick elapsed) hs,
      State.runAccepted_of_none (s := s.tick elapsed) hacc]
    rfl
  intro s1 free sent begins
  have hexec : exec (.demandSent elapsed course) s =
      .next (free.sendNext.beginWaitingDemand.runAccepted course 0) := by
    rw [exec_demandSent ha, State.finishDemand_of_sending (s := s.tick elapsed) hs]
    rfl
  have hquiet : ∀ u : State, u.cellPort = s.cellPort → u.beginWaitingDemand = u →
      free.sendNext = u → exec (.demandSent elapsed course) s = .next u := fun u hc hb hu => by
    rw [hexec, hu, hb, State.runAccepted_of_none (hc ▸ hacc)]
  have hbegins : ∀ u : State, ∀ d, u.cellPort = s.cellPort → s.cellPort.waiting = some d →
      u.demandInPassage = false → free.sendNext = u → exec (.demandSent elapsed course) s = .next (begins u d) :=
    fun u d hc hw hp hu => by
      rw [hexec, hu, State.beginWaitingDemand_of_free (hc ▸ hw) hp, hc]
  refine ⟨fun hr => ?_, fun o rest hr => ?_⟩
  · have hnext : free.sendNext = free := State.sendNext_of_nil hr
    refine ⟨fun hw => hquiet free rfl (State.beginWaitingDemand_of_none hw) hnext, fun d hw => ?_⟩
    refine hbegins free d rfl hw ?_ hnext
    simp [free, s1, State.demandInPassage, hacc, hr]
  · have hnext : free.sendNext = sent o rest := by
      rw [State.sendNext_of_cons (s := free) hr, State.transmit_eq]
      rfl
    have hcell : (sent o rest).cellPort = s.cellPort := by rw [← hnext]; simp [free, s1]
    have hport : (sent o rest).drivePort.sending.toList ++ (sent o rest).drivePort.ready = o :: rest := by
      obtain ⟨hsend, hready⟩ :=
        State.transmit_port (free.withDrivePort { free.drivePort with ready := rest }) o free.clock
      rw [← hnext, State.sendNext_of_cons (s := free) hr, hsend, hready]
      rfl
    have hpass : (sent o rest).demandInPassage = true ↔ ∃ x ∈ o :: rest, x.origin ≠ .substitute := by
      simp [State.demandInPassage_eq_true_iff, hport, hcell, hacc]
    refine ⟨fun hw => hquiet _ hcell ?_ hnext, fun d hw hsub => hbegins _ d hcell hw ?_ hnext⟩
    · rcases hw with hw | hx
      · exact State.beginWaitingDemand_of_none (hcell ▸ hw)
      · exact State.beginWaitingDemand_of_passing (hpass.mpr hx)
    · rw [← Bool.not_eq_true, hpass]
      push Not
      exact hsub

end Sys2Proof.Machine
end

section
/-! A good Feedback: its slots examined and its way up with the unit's insertions (R5, R6, R118, R127, R129). -/

namespace Sys2Proof.Machine

/-- A part of a telegram read back from its place. -/
theorem take_drop_of_append {α : Type} {pre mid post : List α} {i n : Nat} (hi : pre.length = i) (hn : mid.length = n) :
    ((pre ++ mid ++ post).drop i).take n = mid := by
  subst hi hn
  simp [List.append_assoc]

theorem satInc_eq_min (top n : Nat) : satInc top n = min top (n + 1) := by
  unfold satInc; split <;> omega

/-! ### Slot examination (R5, R6) -/

theorem slotAdmitted_iff (window : Option Half) (echo : Half) (a : Acquisition) :
    slotAdmitted window echo a = true ↔ window = some echo ∧ a.taken = false := by
  simp [slotAdmitted]

theorem Acquisition.examine_of_valid {a : Acquisition} {window : Option Half} {echo : Half} {status : DriveStatus}
    (h : window = some echo ∧ a.taken = false) (hv : status.positionValid = true) (position : Word) :
    a.examine window echo position status =
      { a with status := status, pendingSample := some position, taken := true } := by
  simp [Acquisition.examine, (slotAdmitted_iff window echo a).mpr h, hv]

theorem Acquisition.examine_of_invalid {a : Acquisition} {window : Option Half} {echo : Half} {status : DriveStatus}
    (h : window = some echo ∧ a.taken = false) (hv : status.positionValid = false) (position : Word) :
    a.examine window echo position status = { a with status := status } := by
  simp [Acquisition.examine, (slotAdmitted_iff window echo a).mpr h, hv]

theorem Acquisition.examine_of_late {a : Acquisition} {window : Option Half} {echo : Half}
    (h : ¬ (window = some echo ∧ a.taken = false)) (position : Word) (status : DriveStatus) :
    a.examine window echo position status = { a with lateCount := satInc 65535 a.lateCount } := by
  rw [← slotAdmitted_iff] at h
  simp [Acquisition.examine, h]

@[simp] theorem Acquisition.examine_staleFlag (a : Acquisition) (window : Option Half) (echo : Half) (position : Word)
    (status : DriveStatus) : (a.examine window echo position status).staleFlag = a.staleFlag := by
  unfold Acquisition.examine
  split
  · split <;> rfl
  · rfl

theorem State.examineSlots_get (s : State) (bytes : List Byte) (r : Chan) :
    (s.examineSlots bytes).acq.get r =
      (s.acq.get r).examine s.window (echoOf bytes (s.active.slotOf r)) (positionOf bytes (s.active.slotOf r))
        (statusOf bytes (s.active.slotOf r)) := by
  simp [State.examineSlots]

/-! ### The parts of a Feedback sent up (R118, R127, R129) -/

@[simp] theorem eightWords_length (ws : List Word) : (eightWords ws).length = 8 := by
  simp [eightWords]

@[simp] theorem responseBytes_length (p : Response) : (responseBytes p).length = 39 := by
  simp [responseBytes]

@[simp] theorem statusBlock_length (s : State) : (statusBlock s).length = 33 := by
  simp [statusBlock, channels]

/-- The examination of a Feedback's slots changes nothing that the Status block shows. -/
theorem statusBlock_examineSlots (s : State) (bytes : List Byte) :
    statusBlock (s.examineSlots bytes) = statusBlock s := by
  have hstale : ∀ r, ((s.examineSlots bytes).acq.get r).staleFlag = (s.acq.get r).staleFlag := fun r => by
    rw [State.examineSlots_get, Acquisition.examine_staleFlag]
  simp only [statusBlock, partFlags, rollerFlags, State.faultLine, State.commitInFlight, State.storeWriting,
    State.active, hstale, State.examineSlots_frame]

theorem State.carriesResponse_iff (s : State) (bytes : List Byte) :
    s.carriesResponse bytes = true ↔
      responseSource bytes = 0 ∧ s.service.progress = some .performed ∧ s.service.ready ≠ none := by
  simp [State.carriesResponse, Option.isSome_iff_ne_none, and_assoc]

theorem State.responseArea_of_carried {s : State} {bytes : List Byte} {p : Response}
    (h : s.carriesResponse bytes = true) (hp : s.service.ready = some p) : s.responseArea bytes = responseBytes p := by
  simp [State.responseArea, h, hp]

theorem State.responseArea_of_not_carried {s : State} {bytes : List Byte} (h : s.carriesResponse bytes = false) :
    s.responseArea bytes = (bytes.drop 73).take 39 := by
  unfold State.responseArea
  cases s.service.ready <;> simp [h]

theorem State.responseArea_length {s : State} {bytes : List Byte} (h : bytes.length = 114) :
    (s.responseArea bytes).length = 39 := by
  unfold State.responseArea
  split
  · split <;> simp [h]
  · simp [h]

theorem State.sentSequence_eq (s : State) : s.sentSequence = s.drivePort.lastSeq.getD 0 := by
  unfold State.sentSequence
  cases s.drivePort.lastSeq <;> rfl

theorem length_of_goodFeedback {bytes : List Byte} (h : goodFeedback bytes = true) : bytes.length = 114 := by
  simp only [goodFeedback, goodTelegram, Bool.and_eq_true, beq_iff_eq] at h
  obtain ⟨⟨hlen, -⟩, -⟩ := h
  exact hlen

theorem kind_of_goodFeedback {bytes : List Byte} (h : goodFeedback bytes = true) : byteAt bytes 0 = 2 := by
  simp only [goodFeedback, goodTelegram, Bool.and_eq_true, beq_iff_eq] at h
  obtain ⟨⟨-, hkind⟩, -⟩ := h
  exact hkind

/-- Every part of a Feedback with the unit's insertions stands at its place (R118, R127). -/
theorem State.insertedFeedback_layout (s : State) {bytes : List Byte} (h : goodFeedback bytes = true) :
    goodFeedback (s.insertedFeedback bytes) = true ∧ (s.insertedFeedback bytes).take 2 = bytes.take 2 ∧
    halfAt (s.insertedFeedback bytes) 2 = s.drivePort.lastSeq.getD 0 ∧
    ((s.insertedFeedback bytes).drop 4).take 36 = (bytes.drop 4).take 36 ∧
    ((s.insertedFeedback bytes).drop 40).take 33 = statusBlock s ∧
    ((s.insertedFeedback bytes).drop 73).take 39 = s.responseArea bytes := by
  have hlen := length_of_goodFeedback h
  have hhead : (bytes.take 2).length = 2 := by simp [hlen]
  have hdrives : ((bytes.drop 4).take 36).length = 36 := by simp [hlen]
  have harea : (s.responseArea bytes).length = 39 := State.responseArea_length hlen
  rw [← State.sentSequence_eq]
  unfold State.insertedFeedback
  refine ⟨sealed_good (n := 112) ?_ (by decide) ?_, ?_, ?_, ?_, ?_, ?_⟩
  · simp [hlen, harea]
  · rw [← kind_of_goodFeedback h]
    obtain ⟨b, rest, rfl⟩ := List.exists_cons_of_length_pos (show 0 < bytes.length by omega)
    simp [byteAt]
  all_goals unfold sealed
  · simp [List.append_assoc, hlen]
  · have hread := halfAt_bytesOfHalf (bytes.take 2)
      ((bytes.drop 4).take 36 ++ statusBlock s ++ s.responseArea bytes ++ bytesOfHalf (crc16 (bytes.take 2 ++
        bytesOfHalf s.sentSequence ++ (bytes.drop 4).take 36 ++ statusBlock s ++ s.responseArea bytes))) s.sentSequence
    simpa [hhead, List.append_assoc] using hread
  · simpa [List.append_assoc] using take_drop_of_append (pre := bytes.take 2 ++ bytesOfHalf s.sentSequence)
      (i := 4) (by simp [hlen]) hdrives
  · simpa [List.append_assoc] using take_drop_of_append
      (pre := bytes.take 2 ++ bytesOfHalf s.sentSequence ++ (bytes.drop 4).take 36) (i := 40) (by simp [hlen])
      (statusBlock_length s)
  · simpa [List.append_assoc] using take_drop_of_append
      (pre := bytes.take 2 ++ bytesOfHalf s.sentSequence ++ (bytes.drop 4).take 36 ++ statusBlock s) (i := 73)
      (by simp [hlen]) harea

/-! ### The passage -/

theorem exec_goodFeedback {s : State} {elapsed : Nat} {bytes : List Byte} (ha : s.alive = true)
    (hs : s.cellPort.sending = none) (hg : goodFeedback bytes = true) :
    exec (.feedbackReception elapsed bytes) s =
      .next (((s.tick elapsed).examineSlots bytes).insertAndSend bytes) := by
  show Host.Outcome.next _ = _
  rw [if_pos ha]
  simp [State.receiveFeedback, hs, State.feedbackPassage, hg]

theorem State.insertAndSend_of_carried {s : State} {bytes : List Byte} (h : s.carriesResponse bytes = true) :
    s.insertAndSend bytes =
      (s.withCellPort { s.cellPort with sending := some ⟨s.insertedFeedback bytes, true⟩ }).withService
        { s.service with progress := some .answered } := by
  unfold State.insertAndSend
  rw [if_pos h]
  rfl

theorem State.insertAndSend_of_not_carried {s : State} {bytes : List Byte} (h : s.carriesResponse bytes = false) :
    s.insertAndSend bytes =
      s.withCellPort { s.cellPort with sending := some ⟨s.insertedFeedback bytes, false⟩ } := by
  unfold State.insertAndSend
  rw [if_neg (by simp [h])]
  rfl

/-- Settles O29: the examination of the slots leaves what the Status block and the response area show, and every part of
the Feedback sent up stands at its place. -/
theorem goodFeedbackExaminedAndCompleted : Obligations.GoodFeedbackExaminedAndCompleted := by
  intro s elapsed bytes ha hs hg
  let u := (s.tick elapsed).examineSlots bytes
  have hslots : ∀ r, u.acq.get r = (s.acq.get r).examine s.window (echoOf bytes (s.active.slotOf r))
      (positionOf bytes (s.active.slotOf r)) (statusOf bytes (s.active.slotOf r)) :=
    State.examineSlots_get (s.tick elapsed) bytes
  have hstatus : statusBlock u = statusBlock s := statusBlock_examineSlots (s.tick elapsed) bytes
  obtain ⟨hgood, htake, hseq, hdrives, hblock, harea⟩ := u.insertedFeedback_layout hg
  rw [hstatus] at hblock
  have hcarry := u.carriesResponse_iff bytes
  have hexec := exec_goodFeedback (elapsed := elapsed) ha hs hg
  refine ⟨u.acq, if u.carriesResponse bytes then { s.service with progress := some .answered } else s.service,
    ⟨u.insertedFeedback bytes, u.carriesResponse bytes⟩, ?_, fun r => ?_, hgood, htake, hseq, hdrives, hblock, ?_, ?_⟩
  · rw [hexec]
    cases hc : u.carriesResponse bytes with
    | true => rw [State.insertAndSend_of_carried hc]; rfl
    | false => rw [State.insertAndSend_of_not_carried hc]; rfl
  · rw [hslots]
    refine ⟨fun hopen => ⟨fun hv => Acquisition.examine_of_valid hopen hv _,
      fun hv => Acquisition.examine_of_invalid hopen hv _⟩, fun hlate => ?_⟩
    rw [Acquisition.examine_of_late hlate, satInc_eq_min]
  · intro p hsource hprogress hready
    have hc : u.carriesResponse bytes = true := 
      hcarry.mpr ⟨hsource, hprogress, Option.ne_none_iff_exists'.mpr ⟨p, hready⟩⟩
    exact ⟨hc, harea.trans (State.responseArea_of_carried hc hready), if_pos hc⟩
  · intro hnot
    have hc : u.carriesResponse bytes = false := Bool.eq_false_iff.mpr fun h => hnot (hcarry.mp h)
    exact ⟨hc, harea.trans (State.responseArea_of_not_carried hc), if_neg (by simp [hc])⟩

end Sys2Proof.Machine
end

section
/-! The start of a computation, step by step: the count of a check, the live writes, the commit copy, the next expiry
and the exclusions (R99, R133, R136, R154, R155, R157). -/

namespace Sys2Proof.Machine

/-! ### Live writes (R157) -/

/-- After a list of live writes each field holds the value of its last write, or what it held (R157). -/
theorem applyLive_field (img : Image) (writes : List LiveValue) {i : Nat} (hi : i < 254) :
    (applyLive img writes).field i =
      ((writes.filter fun p => p.index == i).getLast?.map LiveValue.value).getD (img.field i) := by
  induction writes using List.reverseRecOn with
  | nil => rfl
  | append_singleton writes p ih =>
    have happly : applyLive img (writes ++ [p]) = (applyLive img writes).put p.index p.value := by
      simp [applyLive]
    rw [happly, List.filter_append]
    by_cases hp : p.index = i
    · rw [Image.field_put _ (hp ▸ hi)]
      simp [hp]
    · have hkeep : ((applyLive img writes).put p.index p.value).field i = (applyLive img writes).field i := by
        rcases Nat.lt_or_ge p.index 254 with hlt | hge
        · rw [Image.field_put _ hlt, if_neg (Ne.symm hp)]
        · rw [Image.put_past _ hge]
      rw [hkeep, ih]
      simp [hp]

/-! ### The check of Staging (R154) -/

theorem State.countCheck_of_not_checking {s : State} (h : s.images.commit.state ≠ .checking) : s.countCheck = s := by
  simp [State.countCheck, h]

theorem State.countCheck_of_early {s : State} (h : s.images.commit.state = .checking)
    (hage : s.images.commit.age + 1 < 8) :
    s.countCheck =
      s.withImages { s.images with commit := { s.images.commit with age := s.images.commit.age + 1 } } := by
  have hnot : ¬ Config.checkCycles ≤ s.images.commit.age + 1 := by simp [Config.checkCycles]; omega
  simp [State.countCheck, h, hnot]

theorem State.countCheck_of_due {s : State} (h : s.images.commit.state = .checking)
    (hage : 8 ≤ s.images.commit.age + 1) :
    s.countCheck =
      (s.withImages { s.images with commit := { s.images.commit with age := s.images.commit.age + 1 } }).endCheck := by
  have hdue : Config.checkCycles ≤ s.images.commit.age + 1 := hage
  simp [State.countCheck, h, hdue]

/-- The end of a check writes the commit record and nothing else of the Image store (R154). -/
theorem State.endCheck_images (s : State) :
    ∃ c : CommitState, c ≠ .checking ∧
      s.endCheck.images = { s.images with
        commit := { s.images.commit with state := c, computed := imageCrc s.images.staging } } := by
  unfold State.endCheck
  dsimp only
  split
  · exact ⟨.none, by decide, by simp [State.withCheck]⟩
  · split
    · exact ⟨.none, by decide, by simp [State.withCheck]⟩
    · exact ⟨.ready, by decide, by simp [State.withCheck]⟩

/-- The count of a check changes the commit record and nothing else of the Image store (R154). -/
theorem State.countCheck_images (s : State) :
    s.countCheck.images = { s.images with commit := s.countCheck.images.commit } := by
  by_cases h : s.images.commit.state = .checking
  · rcases Nat.lt_or_ge (s.images.commit.age + 1) 8 with hage | hage
    · rw [State.countCheck_of_early h hage]; rfl
    · rw [State.countCheck_of_due h hage]
      obtain ⟨c, -, himg⟩ := State.endCheck_images
        (s.withImages { s.images with commit := { s.images.commit with age := s.images.commit.age + 1 } })
      rw [himg]; rfl
  · rw [State.countCheck_of_not_checking h]

/-! ### The commit copy (R155) -/

theorem State.commitCopy_of_not_ready {s : State} (h : s.images.commit.state ≠ .ready) : s.commitCopy = s := by
  simp [State.commitCopy, h]

theorem State.commitCopy_of_ready {s : State} {q : Request} {rest : List Request} (h : s.images.commit.state = .ready)
    (hq : s.service.queue = q :: rest) :
    s.commitCopy =
      (s.withImages { s.images with
        active := s.images.staging, commit := { s.images.commit with state := .none } }).answer
        (respond q .done [s.images.commit.computed.setWidth 32, s.timer.cycleCount]) := by
  simp [State.commitCopy, h, State.answerHead, hq]

theorem State.replacedImage_of_not_ready {s : State} (h : s.images.commit.state ≠ .ready) :
    s.replacedImage = none := if_neg h

/-! ### The work up to the copy -/

/-- The Image store once the live writes are applied (R157). -/
theorem State.beginCycle_images (s : State) (start : CycleStart) :
    (s.beginCycle start).images =
      { s.images with
        active := applyLive s.images.active s.images.pendingLive, pendingLive := []
        commit := s.countCheck.images.commit } := by
  have himg := s.countCheck_images
  simp only [State.beginCycle, State.applyPendingLive, State.withImages_images, State.advanceCycle_frame]
  rw [himg]

@[simp] theorem State.beginCycle_service (s : State) (start : CycleStart) :
    (s.beginCycle start).service = s.countCheck.service := by
  simp [State.beginCycle, State.applyPendingLive]

/-- The count advances with every computation, which a cell Demand starts with its slots (R133). -/
theorem State.beginCycle_timer (s : State) (start : CycleStart) :
    (s.beginCycle start).timer = (s.advanceCycle start).timer := by
  cases start <;> simp [State.beginCycle, State.applyPendingLive, State.advanceCycle]

/-! ### The whole work before the group functions -/

@[simp] theorem State.startWork_images (s : State) (start : CycleStart) :
    (s.startWork start).images = (s.beginCycle start).commitCopy.images := by
  simp [State.startWork]

@[simp] theorem State.startWork_service (s : State) (start : CycleStart) :
    (s.startWork start).service = (s.beginCycle start).commitCopy.service := by
  simp [State.startWork]

theorem State.startWork_timer_cell (s : State) (slots : Quad Slot) :
    (s.startWork (.cell slots)).timer =
      { s.timer with cycleCount := s.timer.cycleCount + 1, held := some slots, computing := some .cell } := by
  simp [State.startWork, State.scheduleNext, State.beginCycle_timer, State.advanceCycle]

theorem State.startWork_timer_substitute (s : State) (expiry : Nat) :
    (s.startWork (.substitute expiry)).timer =
      { s.timer with
        cycleCount := s.timer.cycleCount + 1, computing := some .substitute
        nextExpiry := some (expiry + (s.startWork (.substitute expiry)).images.active.period) } := by
  simp [State.startWork, State.scheduleNext, State.beginCycle_timer, State.advanceCycle, State.active]

/-- The start's work leaves a computation running (R133). -/
theorem State.startWork_computing (s : State) (start : CycleStart) :
    (s.startWork start).timer.computing.isSome = true := by
  cases start with
  | cell slots => rw [State.startWork_timer_cell]; rfl
  | substitute expiry => rw [State.startWork_timer_substitute]; rfl

theorem State.startWork_cycleCount (s : State) (start : CycleStart) :
    (s.startWork start).timer.cycleCount = s.timer.cycleCount + 1 := by
  cases start with
  | cell slots => rw [State.startWork_timer_cell]
  | substitute expiry => rw [State.startWork_timer_substitute]

/-- The exclusions are spent at the start (R99). -/
theorem State.startWork_reaction (s : State) (start : CycleStart) :
    (s.startWork start).reaction = { s.reaction with exclusions := Quad.all false } := by
  simp [State.startWork, State.applyExclusions]

/-- A pending exclusion marks its roller (R23, R99). -/
theorem State.startWork_rollerRef (s : State) (start : CycleStart) (r : Chan) :
    (s.startWork start).rollerRef.get r =
      { s.rollerRef.get r with excluded := (s.rollerRef.get r).excluded || s.reaction.exclusions.get r } := by
  simp [State.startWork, State.applyExclusions]

/-- A pending exclusion clears its roller's stale count (R15, R99). -/
theorem State.startWork_acq (s : State) (start : CycleStart) (r : Chan) :
    (s.startWork start).acq.get r =
      if s.reaction.exclusions.get r then { s.acq.get r with staleCount := 0 } else s.acq.get r := by
  simp [State.startWork, State.applyExclusions]

/-- With no copy due, Active takes the pending live writes and is otherwise as it was (R157). -/
theorem State.startWork_images_of_not_ready {s : State} (start : CycleStart)
    (h : s.countCheck.images.commit.state ≠ .ready) :
    (s.startWork start).images =
      { s.images with
        active := applyLive s.images.active s.images.pendingLive, pendingLive := []
        commit := s.countCheck.images.commit } := by
  rw [State.startWork_images, State.commitCopy_of_not_ready (by rwa [State.beginCycle_images]),
    State.beginCycle_images]

theorem State.startWork_service_of_not_ready {s : State} (start : CycleStart)
    (h : s.countCheck.images.commit.state ≠ .ready) : (s.startWork start).service = s.countCheck.service := by
  rw [State.startWork_service, State.commitCopy_of_not_ready (by rwa [State.beginCycle_images]),
    State.beginCycle_service]

/-! ### The group-function point and the stages -/

theorem State.groupFunctionPoint_of_answered {s : State} (h : s.service.progress ≠ some .waiting) :
    s.groupFunctionPoint = s := by
  unfold State.groupFunctionPoint
  split
  · exact absurd ‹_› h
  · rfl

theorem State.groupFunctionPoint_of_waiting {s : State} {q : Request} {rest : List Request}
    (hq : s.service.queue = q :: rest) (hp : s.service.progress = some .waiting) (hc : q.code = 8) :
    s.groupFunctionPoint = (s.performSet (q.dataWord 0)).answer (s.setResponse q) := by
  simp [State.groupFunctionPoint, hq, hp, hc]

theorem State.startCycle_computing (s : State) (start : CycleStart) :
    (s.startCycle start).timer.computing.isSome = true := by
  simpa [State.startCycle] using s.startWork_computing start

end Sys2Proof.Machine
end

section
/-! The order of a computation: its start, its six stages and the place of an event between them (R133, R154, R155,
R157, R161; section 1.4 of the introduction). -/

namespace Sys2Proof.Machine

/-! ### Runs of stages (R161) -/

/-- An event that comes while a computation runs happens at its moment. -/
theorem State.takeEvent_running {s : State} (h : s.timer.computing.isSome = true) (e : MidEvent) :
    s.takeEvent e = (s.tick e.elapsed).happens e.event := by
  simp [State.takeEvent, h]

/-- Once a reset has abandoned the computation no stage of it runs any more (R122). -/
theorem State.runFrom_abandoned {during : List MidEvent} {fs : List (State → State)} :
    ∀ (point : Nat) {s : State}, s.timer.computing = none → State.runFrom during fs point s = s := by
  have hevents : ∀ (es : List MidEvent) {s : State}, s.timer.computing = none → es.foldl State.takeEvent s = s := by
    intro es s h
    induction es with
    | nil => rfl
    | cons e es ih => rw [List.foldl_cons, show s.takeEvent e = s by simp [State.takeEvent, h]]; exact ih
  induction fs with
  | nil => exact fun point s h => hevents _ h
  | cons f fs ih =>
    intro point s h
    have htake : s.takeEvents during point = s := hevents _ h
    have hstage : s.runStage f = s := by simp [State.runStage, h]
    rw [State.runFrom, htake, hstage, ih _ h]

/-- Past its last event a computation runs on as without events. -/
theorem State.runFrom_single_past {fs : List (State → State)} {e : MidEvent} :
    ∀ (point : Nat) (s : State), e.point < point → State.runFrom [e] fs point s = State.runFrom [] fs point s := by
  induction fs with
  | nil =>
    intro point s h
    simp [State.runFrom, State.takeEvents_single, Nat.ne_of_lt h]
  | cons f fs ih =>
    intro point s h
    rw [State.runFrom, State.runFrom, State.takeEvents_single, if_neg (Nat.ne_of_lt h), State.takeEvents_nil]
    exact ih _ _ (by omega)

/-- A single event comes after the stages finished before its point and before the rest (R161). -/
theorem State.runFrom_single {fs : List (State → State)} {e : MidEvent}
    (hf : ∀ f ∈ fs, ∀ u, (f u).timer.computing = u.timer.computing) :
    ∀ (k point : Nat) (s : State), k ≤ fs.length → e.point = point + k → s.timer.computing.isSome = true →
      State.runFrom [e] fs point s =
        State.runFrom [] (fs.drop k) e.point (((fs.take k).foldl (fun v f => f v) s).takeEvent e) := by
  induction fs with
  | nil =>
    intro k point s hk he hs
    obtain rfl : k = 0 := by simpa using hk
    simp [State.runFrom, State.takeEvents_single, he]
  | cons f fs ih =>
    intro k point s hk he hs
    cases k with
    | zero =>
      have hpoint : e.point = point := he
      rw [State.runFrom, State.takeEvents_single, if_pos hpoint, State.runFrom_single_past _ _ (by omega)]
      simp [State.runFrom, hpoint]
    | succ k =>
      rw [State.runFrom, State.takeEvents_single, if_neg (by omega), State.runStage_running hs,
        ih (fun g hg => hf g (by simp [hg])) k (point + 1) (f s) (by simpa using hk) (by omega)
          (by rw [hf f (by simp)]; exact hs)]
      rfl

/-- Stages that leave the computation running leave it so together. -/
theorem State.foldl_computing {fs : List (State → State)}
    (hf : ∀ f ∈ fs, ∀ u : State, (f u).timer.computing = u.timer.computing) (s : State) :
    (fs.foldl (fun v f => f v) s).timer.computing = s.timer.computing := by
  induction fs generalizing s with
  | nil => rfl
  | cons f fs ih => rw [List.foldl_cons, ih (fun g hg => hf g (by simp [hg])), hf f (by simp)]

/-- Without events a computation is its start and then its six stages. -/
theorem State.computeCycle_nil (s : State) (start : CycleStart) (point : Nat) :
    s.computeCycle start [] point =
      (cycleStages (s.beginCycle start).replacedImage s.drivePort.lastSeq.isSome).foldl (fun v f => f v)
        (s.startCycle start) :=
  State.runFrom_nil (cycleStages_computing _ _) point _ (s.startCycle_computing start)

/-- A single event of a computation is taken between two stages; the rest runs unless it was abandoned. -/
theorem State.computeCycle_single (s : State) (start : CycleStart) {e : MidEvent} {k point : Nat} (hk : k ≤ 6)
    (he : e.point = point + k) :
    let stages := cycleStages (s.beginCycle start).replacedImage s.drivePort.lastSeq.isSome
    let before := (stages.take k).foldl (fun v f => f v) (s.startCycle start)
    let u := (before.tick e.elapsed).happens e.event
    (u.timer.computing ≠ none → s.computeCycle start [e] point = (stages.drop k).foldl (fun v f => f v) u) ∧
    (u.timer.computing = none → s.computeCycle start [e] point = u) := by
  intro stages before u
  have hstages : ∀ f ∈ stages, ∀ v : State, (f v).timer.computing = v.timer.computing := cycleStages_computing _ _
  have hbefore : before.timer.computing.isSome = true := by
    rw [State.foldl_computing fun f hf => hstages f (List.mem_of_mem_take hf)]
    exact s.startCycle_computing start
  have hrun : s.computeCycle start [e] point = State.runFrom [] (stages.drop k) e.point u := by
    rw [State.computeCycle, State.runFrom_single hstages k point _ hk he (s.startCycle_computing start),
      State.takeEvent_running hbefore]
  rw [hrun]
  refine ⟨fun hu => ?_, fun hu => State.runFrom_abandoned _ hu⟩
  exact State.runFrom_nil (fun f hf => hstages f (List.mem_of_mem_drop hf)) _ u (Option.isSome_iff_ne_none.mpr hu)

/-! ### What the stages leave of the start's work -/

/-- The six stages leave the Image store and the Service unit as the start's work left them. -/
theorem State.computeCycle_nil_frame (s : State) (start : CycleStart) :
    (s.computeCycle start [] 0).images = (s.startCycle start).images ∧
    (s.computeCycle start [] 0).service = (s.startCycle start).service := by
  rw [State.computeCycle_nil]
  simp [cycleStages]

theorem State.startCycle_images (s : State) (start : CycleStart) :
    (s.startCycle start).images = (s.startWork start).images := by
  simp [State.startCycle]

/-- A check counted once is not counted again by the start that finds it ended. -/
theorem State.computeCycle_countCheck {s : State} (h : s.countCheck.images.commit.state ≠ .checking)
    (start : CycleStart) (during : List MidEvent) (point : Nat) :
    s.computeCycle start during point = s.countCheck.computeCycle start during point := by
  have hbegin : s.countCheck.beginCycle start = s.beginCycle start := by
    simp only [State.beginCycle, State.countCheck_of_not_checking h]
  simp only [State.computeCycle, State.startCycle, State.startWork, hbegin, State.countCheck_frame]

/-- The Image store and the Service unit after a computation that makes the commit copy (R155). -/
theorem State.startWork_of_ready {s : State} {q : Request} {rest : List Request}
    (h : s.images.commit.state = .ready) (hq : s.service.queue = q :: rest) (start : CycleStart) :
    (s.startWork start).images =
      { s.images with
        active := s.images.staging, pendingLive := [], commit := { s.images.commit with state := .none } } ∧
    (s.startWork start).service =
      { s.service with
        progress := some .performed
        ready := some (respond q .done [s.images.commit.computed.setWidth 32, s.timer.cycleCount + 1]) } := by
  have hcheck : s.countCheck = s := State.countCheck_of_not_checking (by rw [h]; decide)
  have himages := s.beginCycle_images start
  have hservice := s.beginCycle_service start
  rw [hcheck] at himages hservice
  have hcopy := State.commitCopy_of_ready (s := s.beginCycle start) (by rw [himages]; exact h) (by rw [hservice]; exact hq)
  have hcount : (s.beginCycle start).timer.cycleCount = s.timer.cycleCount + 1 := by
    rw [State.beginCycle_timer]; cases start <;> rfl
  rw [State.startWork_images, State.startWork_service, hcopy]
  simp [State.answer, himages, hcheck, hcount]

/-! ### The order of a computation -/

/-- A check that goes on ends before the start of the eighth computation, as if its end had come just before (R154). -/
theorem checkDue_ends {s : State} (ha : s.alive = true) (h : s.images.commit.state = .checking)
    (hage : 8 ≤ s.images.commit.age + 1) :
    exec .commitCheckEnd (s.withImages { s.images with
        commit := { s.images.commit with age := s.images.commit.age + 1 } }) = .next s.countCheck ∧
      s.countCheck.images.commit.state ≠ .checking := by
  have hdue := State.countCheck_of_due h hage
  constructor
  · rw [hdue]
    show Host.Outcome.next (State.checkEnds _) = _
    have halive : (s.alive && s.images.commit.state == .checking) = true := by simp [ha, h]
    exact congrArg _ (if_pos halive)
  · rw [hdue]
    obtain ⟨c, hc, himg⟩ := State.endCheck_images
      (s.withImages { s.images with commit := { s.images.commit with age := s.images.commit.age + 1 } })
    rw [himg]
    exact hc

/-- While no check ends and no copy is due, a computation's start applies the live writes and counts the check (R154,
R157). -/
theorem startWork_live {s : State} (start : CycleStart)
    (h : s.images.commit.state = .none ∨ (s.images.commit.state = .checking ∧ s.images.commit.age + 1 < 8)) :
    s.countCheck.images.commit.state = s.images.commit.state ∧
    (s.images.commit.state = .checking → s.countCheck.images.commit.age = s.images.commit.age + 1) ∧
    (s.startWork start).images =
      { s.images with
        active := applyLive s.images.active s.images.pendingLive, pendingLive := []
        commit := s.countCheck.images.commit } := by
  have hcommit : s.countCheck.images.commit.state = s.images.commit.state ∧
      (s.images.commit.state = .checking → s.countCheck.images.commit.age = s.images.commit.age + 1) := by
    rcases h with h | ⟨h, hage⟩
    · rw [State.countCheck_of_not_checking (by simp [h])]
      exact ⟨rfl, fun hc => by simp [h] at hc⟩
    · rw [State.countCheck_of_early h hage]
      exact ⟨rfl, fun _ => rfl⟩
  refine ⟨hcommit.1, hcommit.2, State.startWork_images_of_not_ready start ?_⟩
  rw [hcommit.1]
  rcases h with h | ⟨h, -⟩ <;> simp [h]

/-- Settles O52: the run of the stages with one event, then each effect of the work at the start. -/
theorem computationAppliesWritesAndCopies : Obligations.ComputationAppliesWritesAndCopies := by
  refine ⟨fun s start point => ?_, fun s start => ?_, fun s start => ?_, fun s start => ?_, fun s start ha hc hage => ?_,
    fun s start q rest hready hq hcode => ?_⟩
  · intro old stages run
    exact ⟨s.computeCycle_nil start point, fun e k hk he => s.computeCycle_single start hk he⟩
  · refine ⟨s.startWork_cycleCount start, ?_, ?_, ?_, ?_, s.startWork_reaction start, ?_, ?_,
      fun r => ⟨fun hex => ?_, fun hex => ?_⟩⟩
    · cases start with
      | cell slots => rw [State.startWork_timer_cell]
      | substitute expiry => rw [State.startWork_timer_substitute]
    · cases start with
      | cell slots => rw [State.startWork_timer_cell]
      | substitute expiry => rw [State.startWork_timer_substitute]
    · rintro slots rfl
      rw [State.startWork_timer_cell]
      exact ⟨rfl, rfl⟩
    · rintro expiry rfl
      constructor <;> rw [State.startWork_timer_substitute]
    · simp
    · simp
    · rw [State.startWork_rollerRef, State.startWork_acq, hex]
      simp
    · rw [State.startWork_rollerRef, State.startWork_acq, hex]
      simp
  · rw [(s.computeCycle_nil_frame start).1, State.startCycle_images]
  · intro w h
    obtain ⟨hstate, hcount, himages⟩ := startWork_live start h
    simp only [w, himages]
    refine ⟨trivial, hstate, hcount, trivial, fun i hi => ?_⟩
    rw [applyLive_field _ _ hi]
    cases (s.images.pendingLive.filter fun p => p.index == i).getLast? <;> rfl
  · obtain ⟨hends, hstate⟩ := checkDue_ends ha hc hage
    exact ⟨s.countCheck, hends, hstate, State.computeCycle_countCheck hstate start⟩
  · obtain ⟨himages, hservice⟩ := State.startWork_of_ready hready hq start
    obtain ⟨hkimages, hkservice⟩ := s.computeCycle_nil_frame start
    have hpoint : s.startCycle start = s.startWork start :=
      State.groupFunctionPoint_of_answered (by rw [hservice]; simp)
    simp only [hkimages, hkservice, hpoint, himages, hservice]
    exact ⟨trivial, trivial, trivial, trivial, trivial, trivial, trivial, trivial, rfl⟩

end Sys2Proof.Machine
end

section
/-! What a list of reports does to the Fault store, the levels, the group states, the exclusions and the History buffer
(R57, R94 to R99, R110). -/

namespace Sys2Proof.Machine

/-! ### Keys (R93) -/

theorem FaultEntry.hasKey_iff (f : FaultEntry) (k : FaultKind) (c : Chan) : f.hasKey k c = true ↔ f.key = (k, c) := by
  simp [FaultEntry.hasKey, FaultEntry.key]

/-- The end of a cause, as the statements about it say it (R95). -/
theorem endCause_eq (faults : List FaultEntry) (k : FaultKind) (c : Chan) :
    endCause faults k c = causeEnded faults k c := by
  simp only [endCause, causeEnded, FaultEntry.hasKey_iff]

/-- The key a report is about. -/
def Report.key : Report → FaultKind × Chan
  | .occurrence k c => (k, c)
  | .ended k c => (k, c)

/-! ### The Fault store after reports of different keys (R94, R95) -/

/-- The Fault store after one report. -/
def storeAfter (cycle : Word) (faults : List FaultEntry) : Report → List FaultEntry
  | .occurrence k c => recordFault faults k c cycle
  | .ended k c => endCause faults k c

/-- An entry after reports of different keys: the one about its own key renews it or ends its cause. -/
def FaultEntry.afterReports (f : FaultEntry) (ps : List Report) (cycle : Word) : FaultEntry :=
  if .occurrence f.kind f.scope ∈ ps then f.again cycle
  else if .ended f.kind f.scope ∈ ps then { f with causePresent := false }
  else f

/-- The entry a report adds to a store: that of an occurrence whose key has none. -/
def newEntry (faults : List FaultEntry) (cycle : Word) : Report → Option FaultEntry
  | .occurrence k c => if (k, c) ∈ faults.map FaultEntry.key then none else some ⟨k, c, cycle, cycle, 1, k.lasting⟩
  | .ended _ _ => none

@[simp] theorem FaultEntry.afterReports_key (f : FaultEntry) (ps : List Report) (cycle : Word) :
    (f.afterReports ps cycle).key = f.key := by
  unfold FaultEntry.afterReports
  split
  · rfl
  · split <;> rfl

theorem FaultEntry.afterReports_of_unreported {f : FaultEntry} {ps : List Report} (h : f.key ∉ ps.map Report.key)
    (cycle : Word) : f.afterReports ps cycle = f := by
  have hocc : Report.occurrence f.kind f.scope ∉ ps := fun hp => h (List.mem_map.mpr ⟨_, hp, rfl⟩)
  have hend : Report.ended f.kind f.scope ∉ ps := fun hp => h (List.mem_map.mpr ⟨_, hp, rfl⟩)
  rw [FaultEntry.afterReports, if_neg hocc, if_neg hend]

theorem newEntry_key {faults : List FaultEntry} {cycle : Word} {p : Report} {e : FaultEntry}
    (h : newEntry faults cycle p = some e) : e.key = p.key := by
  cases p with
  | occurrence k c =>
    simp only [newEntry] at h
    split at h
    · cases h
    · cases h; rfl
  | ended k c => cases h

/-- One report changes the entries of its key, or adds one. -/
theorem storeAfter_eq (cycle : Word) (faults : List FaultEntry) (p : Report) :
    storeAfter cycle faults p =
      faults.map (fun f => f.afterReports [p] cycle) ++ (newEntry faults cycle p).toList := by
  cases p with
  | occurrence k c =>
    have hany : faults.any (fun f => f.hasKey k c) = decide ((k, c) ∈ faults.map FaultEntry.key) := by
      rw [Bool.eq_iff_iff]
      simp [FaultEntry.hasKey_iff]
    have hentry : ∀ f : FaultEntry, f.afterReports [.occurrence k c] cycle =
        if f.hasKey k c then f.again cycle else f := fun f => by
      simp [FaultEntry.afterReports, FaultEntry.hasKey_iff, FaultEntry.key]
    by_cases hkey : (k, c) ∈ faults.map FaultEntry.key
    · simp only [storeAfter, recordFault, hany, decide_eq_true hkey, newEntry, if_pos hkey, hentry]
      simp
    · have hkeep : ∀ f ∈ faults, (if f.hasKey k c then f.again cycle else f) = f := fun f hf =>
        if_neg fun h => hkey (List.mem_map.mpr ⟨f, hf, (f.hasKey_iff k c).mp h⟩)
      simp only [storeAfter, recordFault, hany, decide_eq_false hkey, newEntry, if_neg hkey, hentry]
      rw [List.map_congr_left hkeep]
      simp
  | ended k c =>
    have hentry : ∀ f : FaultEntry, f.afterReports [.ended k c] cycle =
        if f.hasKey k c then { f with causePresent := false } else f := fun f => by
      simp [FaultEntry.afterReports, FaultEntry.hasKey_iff, FaultEntry.key]
    simp [storeAfter, endCause, newEntry, hentry]

/-- A report of another key leaves open whether a key has an entry. -/
theorem newEntry_storeAfter {cycle : Word} {faults : List FaultEntry} {p q : Report} (h : q.key ≠ p.key) :
    newEntry (storeAfter cycle faults p) cycle q = newEntry faults cycle q := by
  cases q with
  | occurrence k c =>
    have hkeys : (k, c) ∈ (storeAfter cycle faults p).map FaultEntry.key ↔ (k, c) ∈ faults.map FaultEntry.key := by
      rw [storeAfter_eq, List.map_append, List.map_map, List.mem_append]
      have hnew : (k, c) ∉ (newEntry faults cycle p).toList.map FaultEntry.key := fun hmem => by
        obtain ⟨e, he, hkey⟩ := List.mem_map.mp hmem
        exact h (hkey.symm.trans (newEntry_key (Option.mem_toList.mp he)))
      simp only [hnew, or_false]
      exact Iff.of_eq (congrArg _ (List.map_congr_left fun f _ => f.afterReports_key _ _))
    simp only [newEntry, hkeys]
  | ended k c => rfl

theorem FaultEntry.afterReports_cons {f : FaultEntry} {p : Report} {ps : List Report} (h : p.key ∉ ps.map Report.key)
    (cycle : Word) : (f.afterReports [p] cycle).afterReports ps cycle = f.afterReports (p :: ps) cycle := by
  by_cases hkey : f.key = p.key
  · rw [FaultEntry.afterReports_of_unreported (by rwa [FaultEntry.afterReports_key, hkey])]
    have hocc : Report.occurrence f.kind f.scope ∉ ps := fun hp => h (hkey ▸ List.mem_map.mpr ⟨_, hp, rfl⟩)
    have hend : Report.ended f.kind f.scope ∉ ps := fun hp => h (hkey ▸ List.mem_map.mpr ⟨_, hp, rfl⟩)
    simp [FaultEntry.afterReports, hocc, hend]
  · rw [FaultEntry.afterReports_of_unreported (ps := [p]) (by simpa using hkey)]
    have hocc : Report.occurrence f.kind f.scope ≠ p := fun e => hkey (congrArg Report.key e)
    have hend : Report.ended f.kind f.scope ≠ p := fun e => hkey (congrArg Report.key e)
    simp [FaultEntry.afterReports, hocc, hend]

/-- Reports of different keys renew or end the entries of their keys in place and append the new ones. -/
theorem foldl_storeAfter {ps : List Report} (h : (ps.map Report.key).Nodup) (cycle : Word) (faults : List FaultEntry) :
    ps.foldl (storeAfter cycle) faults =
      faults.map (fun f => f.afterReports ps cycle) ++ ps.filterMap (newEntry faults cycle) := by
  induction ps generalizing faults with
  | nil => simp [FaultEntry.afterReports]
  | cons p ps ih =>
    obtain ⟨hp, hps⟩ := List.nodup_cons.mp h
    have hnew : ps.filterMap (newEntry (storeAfter cycle faults p) cycle) = ps.filterMap (newEntry faults cycle) :=
      List.filterMap_congr fun q hq => newEntry_storeAfter fun e => hp (e ▸ List.mem_map.mpr ⟨q, hq, rfl⟩)
    have hadded : (newEntry faults cycle p).toList.map (fun f => f.afterReports ps cycle) =
        (newEntry faults cycle p).toList :=
      (List.map_congr_left fun e he => FaultEntry.afterReports_of_unreported
        (by rwa [newEntry_key (Option.mem_toList.mp he)]) cycle).trans (List.map_id' _)
    rw [List.foldl_cons, ih hps, hnew, storeAfter_eq, List.map_append, hadded, List.map_map, List.append_assoc]
    congr 1
    · exact List.map_congr_left fun f _ => FaultEntry.afterReports_cons hp cycle
    · cases hn : newEntry faults cycle p <;> simp [hn]

/-- The keys of the entries added are keys of the reports, so each is added once. -/
theorem newEntries_keys_sublist (faults : List FaultEntry) (cycle : Word) (ps : List Report) :
    ((ps.filterMap (newEntry faults cycle)).map FaultEntry.key).Sublist (ps.map Report.key) := by
  induction ps with
  | nil => exact .slnil
  | cons p ps ih =>
    cases hn : newEntry faults cycle p with
    | none => rw [List.filterMap_cons_none hn]; exact ih.cons _
    | some e =>
      rw [List.filterMap_cons_some hn, List.map_cons, List.map_cons, newEntry_key hn]
      exact ih.cons_cons _

theorem mem_newEntries {faults : List FaultEntry} {cycle : Word} {ps : List Report} {e : FaultEntry} :
    e ∈ ps.filterMap (newEntry faults cycle) ↔
      ∃ k c, .occurrence k c ∈ ps ∧ (∀ f ∈ faults, f.key ≠ (k, c)) ∧ e = ⟨k, c, cycle, cycle, 1, k.lasting⟩ := by
  have hentry : ∀ k c, newEntry faults cycle (.occurrence k c) = some e ↔
      (∀ f ∈ faults, f.key ≠ (k, c)) ∧ e = ⟨k, c, cycle, cycle, 1, k.lasting⟩ := fun k c => by
    simp only [newEntry]
    split
    case isTrue hkey =>
      obtain ⟨f, hf, hfk⟩ := List.mem_map.mp hkey
      exact iff_of_false (Option.some_ne_none e).symm fun ⟨hnone, _⟩ => hnone f hf hfk
    case isFalse hkey =>
      have hnone : ∀ f ∈ faults, f.key ≠ (k, c) := fun f hf hfk => hkey (List.mem_map.mpr ⟨f, hf, hfk⟩)
      exact ⟨fun h => ⟨hnone, (Option.some.inj h).symm⟩, fun ⟨_, he⟩ => congrArg some he.symm⟩
  rw [List.mem_filterMap]
  constructor
  · rintro ⟨p, hp, hpe⟩
    cases p with
    | occurrence k c => exact ⟨k, c, hp, (hentry k c).mp hpe⟩
    | ended k c => cases hpe
  · rintro ⟨k, c, hp, h⟩
    exact ⟨_, hp, (hentry k c).mpr h⟩

/-- A key that occurred has an entry with the count of its latest occurrence (R94). -/
theorem exists_entry_of_occurrence {ps : List Report} (h : (ps.map Report.key).Nodup) (cycle : Word)
    (faults : List FaultEntry) {k : FaultKind} {c : Chan} (hp : .occurrence k c ∈ ps) :
    ∃ f ∈ ps.foldl (storeAfter cycle) faults, f.key = (k, c) ∧ f.last = cycle := by
  rw [foldl_storeAfter h]
  by_cases hkey : ∃ f ∈ faults, f.key = (k, c)
  · obtain ⟨f, hf, hfk⟩ := hkey
    obtain ⟨rfl, rfl⟩ := Prod.mk.inj hfk
    refine ⟨f.afterReports ps cycle, List.mem_append_left _ (List.mem_map.mpr ⟨f, hf, rfl⟩), by simpa using hfk, ?_⟩
    rw [FaultEntry.afterReports, if_pos hp]
    rfl
  · refine ⟨⟨k, c, cycle, cycle, 1, k.lasting⟩, List.mem_append_right _ (mem_newEntries.mpr ⟨k, c, hp, ?_, rfl⟩),
      rfl, rfl⟩
    exact fun f hf e => hkey ⟨f, hf, e⟩

theorem State.takeReport_faults (s : State) (p : Report) :
    (s.takeReport p).reaction.faults = storeAfter s.timer.cycleCount s.reaction.faults p := by
  cases p with
  | occurrence k c => simp [State.takeReport, State.occurrence_reaction, storeAfter]
  | ended k c => simp [State.takeReport, storeAfter]

theorem State.foldReports_faults (s : State) (ps : List Report) :
    (ps.foldl State.takeReport s).reaction.faults =
      ps.foldl (storeAfter s.timer.cycleCount) s.reaction.faults := by
  induction ps generalizing s with
  | nil => rfl
  | cons p ps ih => simp only [List.foldl_cons, ih, State.takeReport_frame, State.takeReport_faults]

/-! ### Levels (R97) -/

theorem Level.code_max (a b : Level) : (a.max b).code = Max.max a.code b.code := by
  unfold Level.max
  split <;> omega

theorem Level.max_eq (a b : Level) : a.max b = a ∨ a.max b = b := by
  unfold Level.max
  split <;> simp

theorem State.takeReport_level_occurrence (s : State) (k : FaultKind) (c g : Chan) :
    (s.takeReport (.occurrence k c)).reaction.levels.get g =
      if appliesTo s.active k c g then (s.reaction.levels.get g).max (s.configuredLevel k)
      else s.reaction.levels.get g := by
  simp [State.takeReport, State.occurrence_reaction]

theorem State.takeReport_level_ended (s : State) (k : FaultKind) (c g : Chan) :
    (s.takeReport (.ended k c)).reaction.levels.get g = s.reaction.levels.get g := by
  simp [State.takeReport]

/-- No report lowers a level. -/
theorem State.takeReport_level_le (s : State) (p : Report) (g : Chan) :
    (s.reaction.levels.get g).code ≤ ((s.takeReport p).reaction.levels.get g).code := by
  cases p with
  | occurrence k c =>
    rw [State.takeReport_level_occurrence]
    split
    · rw [Level.code_max]; omega
    · exact le_rfl
  | ended k c => rw [State.takeReport_level_ended]

/-- After a list of reports a group's level is the greatest of its own and those configured for the occurrences that
apply to it (R97). -/
theorem State.foldReports_levels (s : State) (ps : List Report) (g : Chan) :
    let t := ps.foldl State.takeReport s
    (s.reaction.levels.get g).code ≤ (t.reaction.levels.get g).code ∧
    (∀ k c, .occurrence k c ∈ ps → appliesTo s.active k c g = true →
      (s.configuredLevel k).code ≤ (t.reaction.levels.get g).code) ∧
    (t.reaction.levels.get g = s.reaction.levels.get g ∨
      ∃ k c, .occurrence k c ∈ ps ∧ appliesTo s.active k c g = true ∧
        t.reaction.levels.get g = s.configuredLevel k) := by
  induction ps generalizing s with
  | nil => simp
  | cons p ps ih =>
    have himages : (s.takeReport p).images = s.images := by simp
    have hactive : (s.takeReport p).active = s.active := State.active_eq himages
    obtain ⟨hle, hbound, hreached⟩ := ih (s.takeReport p)
    simp only [hactive, State.configuredLevel_eq himages] at hbound hreached
    have hfirst := s.takeReport_level_le p g
    refine ⟨hfirst.trans hle, fun k c hmem happlies => ?_, ?_⟩
    · rcases List.mem_cons.mp hmem with rfl | hmem
      · refine le_trans ?_ hle
        rw [State.takeReport_level_occurrence, if_pos happlies, Level.code_max]
        exact le_max_right _ _
      · exact hbound k c hmem happlies
    · rcases hreached with hsame | ⟨k, c, hmem, happlies, hlevel⟩
      · rw [List.foldl_cons, hsame]
        cases p with
        | ended k c => exact .inl (State.takeReport_level_ended s k c g)
        | occurrence k c =>
          rw [State.takeReport_level_occurrence]
          by_cases happlies : appliesTo s.active k c g = true
          · rw [if_pos happlies]
            exact (Level.max_eq _ _).imp_right fun h => ⟨k, c, by simp, happlies, h⟩
          · exact .inl (if_neg happlies)
      · exact .inr ⟨k, c, List.mem_cons_of_mem _ hmem, happlies, hlevel⟩

/-! ### Group states (R57) -/

theorem GroupCoupling.suspendOnRise_twice (c : GroupCoupling) : c.suspendOnRise.suspendOnRise = c.suspendOnRise := by
  obtain ⟨state, step, suspend⟩ := c
  cases state <;> rfl

/-- Rises in several steps act as one rise. -/
theorem GroupCoupling.onLevel_trans (c : GroupCoupling) {a b d : Level} (hab : a.code ≤ b.code) (hbd : b.code ≤ d.code) :
    (c.onLevel a b).onLevel b d = c.onLevel a d := by
  unfold GroupCoupling.onLevel
  by_cases h1 : a.code < b.code ∧ 3 ≤ b.code
  · have h : a.code < d.code ∧ 3 ≤ d.code := by omega
    rw [if_pos h1, if_pos h, GroupCoupling.suspendOnRise_twice, ite_self]
  · rw [if_neg h1]
    by_cases h2 : b.code < d.code ∧ 3 ≤ d.code
    · rw [if_pos h2, if_pos (by omega)]
    · rw [if_neg h2, if_neg (by omega)]

/-- What a level's change does to a group's state, as the statements say it (R57). -/
theorem GroupCoupling.afterLevelChange_onLevel (c : GroupCoupling) (old new : Level) :
    afterLevelChange c (c.onLevel old new) old new := by
  refine ⟨fun h => ?_, fun h => if_neg h⟩
  rw [GroupCoupling.onLevel, if_pos h]
  obtain ⟨state, step, suspend⟩ := c
  cases state <;>
    simp [GroupCoupling.suspendOnRise, GroupState.couples, GroupState.atRest]

theorem State.takeReport_coupling (s : State) (p : Report) (g : Chan) :
    (s.takeReport p).coupling.get g =
      (s.coupling.get g).onLevel (s.reaction.levels.get g) ((s.takeReport p).reaction.levels.get g) := by
  cases p with
  | occurrence k c => simp [State.takeReport, State.occurrence_coupling, State.occurrence_reaction]
  | ended k c => simp [State.takeReport, GroupCoupling.onLevel]

theorem State.foldReports_coupling (s : State) (ps : List Report) (g : Chan) :
    (ps.foldl State.takeReport s).coupling.get g =
      (s.coupling.get g).onLevel (s.reaction.levels.get g)
        ((ps.foldl State.takeReport s).reaction.levels.get g) := by
  induction ps generalizing s with
  | nil => simp [GroupCoupling.onLevel]
  | cons p ps ih =>
    obtain ⟨hle, -, -⟩ := (s.takeReport p).foldReports_levels ps g
    rw [List.foldl_cons, ih, State.takeReport_coupling,
      GroupCoupling.onLevel_trans _ (s.takeReport_level_le p g) hle]

/-! ### Exclusions (R99) -/

theorem State.foldReports_exclusions (s : State) (ps : List Report) (r : Chan) :
    (ps.foldl State.takeReport s).reaction.exclusions.get r = true ↔
      s.reaction.exclusions.get r = true ∨
        ∃ k, k.scopeKind = .roller ∧ .occurrence k r ∈ ps ∧ s.configuredLevel k = .degrade := by
  induction ps generalizing s with
  | nil => simp
  | cons p ps ih =>
    have himages : (s.takeReport p).images = s.images := by simp
    rw [List.foldl_cons, ih]
    simp only [State.configuredLevel_eq himages]
    cases p with
    | ended k c => simp [State.takeReport]
    | occurrence k c =>
      have hfirst : (s.takeReport (.occurrence k c)).reaction.exclusions.get r = true ↔
          s.reaction.exclusions.get r = true ∨ (k.scopeKind = .roller ∧ r = c ∧ s.configuredLevel k = .degrade) := by
        simp only [State.takeReport, State.occurrence_reaction]
        split
        case isTrue h =>
          obtain ⟨hscope, hlevel⟩ := h
          rw [Quad.get_set]
          by_cases hr : r = c <;> simp [hr, hscope, hlevel]
        case isFalse h =>
          exact (or_iff_left fun ⟨hscope, _, hlevel⟩ => h ⟨hscope, hlevel⟩).symm
      rw [hfirst]
      constructor
      · rintro ((h | ⟨hscope, rfl, hlevel⟩) | ⟨k', hscope, hmem, hlevel⟩)
        · exact .inl h
        · exact .inr ⟨k, hscope, by simp, hlevel⟩
        · exact .inr ⟨k', hscope, List.mem_cons_of_mem _ hmem, hlevel⟩
      · rintro (h | ⟨k', hscope, hmem, hlevel⟩)
        · exact .inl (.inl h)
        · rcases List.mem_cons.mp hmem with heq | hmem
          · cases heq
            exact .inl (.inr ⟨hscope, rfl, hlevel⟩)
          · exact .inr ⟨k', hscope, hmem, hlevel⟩

/-! ### The History buffer (R110, R112) -/

/-- A report that triggers the History buffer. -/
def State.reportTriggers (s : State) : Report → Bool
  | .occurrence k _ => s.triggers k
  | .ended _ _ => false

theorem State.triggers_iff (s : State) (k : FaultKind) :
    s.triggers k = true ↔ 1 ≤ s.active.triggerLevel ∧ s.active.triggerLevel ≤ (s.configuredLevel k).code := by
  simp [State.triggers]

theorem State.reportTriggers_eq {s t : State} (h : s.images = t.images) : s.reportTriggers = t.reportTriggers := by
  funext p
  cases p with
  | occurrence k c => simp only [State.reportTriggers, State.triggers, State.active_eq h, State.configuredLevel_eq h]
  | ended k c => rfl

theorem History.trigger_twice (h : History) (n : Nat) : (h.trigger n).trigger n = h.trigger n := by
  obtain ⟨ring, state, remainder⟩ := h
  cases state with
  | recording => by_cases hn : n = 0 <;> simp [History.trigger, hn]
  | postTrigger => rfl
  | frozen => rfl

theorem History.afterTrigger_trigger (h : History) (n : Nat) : afterTrigger h (h.trigger n) n := by
  obtain ⟨ring, state, remainder⟩ := h
  cases state with
  | recording => by_cases hn : n = 0 <;> simp [afterTrigger, History.trigger, hn]
  | postTrigger => simp [afterTrigger, History.trigger]
  | frozen => simp [afterTrigger, History.trigger]

theorem State.takeReport_history (s : State) (p : Report) :
    (s.takeReport p).history =
      if s.reportTriggers p then s.history.trigger s.active.postTrigger else s.history := by
  cases p with
  | occurrence k c => exact s.occurrence_history k c
  | ended k c => simp [State.takeReport, State.reportTriggers]

/-- A list of reports triggers the buffer once if one of them does. -/
theorem State.foldReports_history (s : State) (ps : List Report) :
    (ps.foldl State.takeReport s).history =
      if ps.any s.reportTriggers then s.history.trigger s.active.postTrigger else s.history := by
  induction ps generalizing s with
  | nil => rfl
  | cons p ps ih =>
    have himages : (s.takeReport p).images = s.images := by simp
    rw [List.foldl_cons, ih, State.reportTriggers_eq himages, State.active_eq himages, State.takeReport_history,
      List.any_cons]
    cases s.reportTriggers p <;> cases ps.any s.reportTriggers <;> simp [History.trigger_twice]

/-! ### The reports of a stage (R90, R96) -/

/-- The reports do not depend on the draws of free values. -/
theorem State.takeReport_withDraws (s : State) (p : Report) (n : Nat) :
    (s.withDraws n).takeReport p = (s.takeReport p).withDraws n := by
  cases p with
  | ended k c => rfl
  | occurrence k c =>
    have hexclusion : ∀ u : State, (u.withDraws n).setExclusion k c = (u.setExclusion k c).withDraws n := fun u => by
      simp only [State.setExclusion, apply_ite (State.withDraws · n)]
      rfl
    have htrigger : ∀ u : State, (u.withDraws n).offerTrigger k = (u.offerTrigger k).withDraws n := fun u => by
      simp only [State.offerTrigger, apply_ite (State.withDraws · n)]
      rfl
    show (((((s.withReaction _).escalate k c).withDraws n).setExclusion k c).offerTrigger k) = _
    rw [hexclusion, htrigger]
    rfl

theorem State.foldReports_withDraws (s : State) (ps : List Report) (n : Nat) :
    ps.foldl State.takeReport (s.withDraws n) = (ps.foldl State.takeReport s).withDraws n := by
  induction ps generalizing s with
  | nil => rfl
  | cons p ps ih => rw [List.foldl_cons, State.takeReport_withDraws, ih]; rfl

/-- The reports of a stage are taken one by one in some order; only the draw count shows that it was drawn (R96). -/
theorem State.takeReports_eq (s : State) (ps : List Report) :
    ∃ (qs : List Report) (n : Nat), qs.Perm ps ∧ s.takeReports ps = (qs.foldl State.takeReport s).withDraws n := by
  obtain ⟨qs, n, hperm, heq⟩ := s.takeReports_fold ps
  exact ⟨qs, n, hperm, heq.trans (s.foldReports_withDraws qs n)⟩

/-- Two rounds of reports are one round of all of them. -/
theorem State.takeReports_twice (s : State) (ps ps' : List Report) :
    ∃ (qs : List Report) (n : Nat), qs.Perm (ps ++ ps') ∧
      (s.takeReports ps).takeReports ps' = (qs.foldl State.takeReport s).withDraws n := by
  obtain ⟨qs, n, hperm, heq⟩ := s.takeReports_eq ps
  obtain ⟨qs', n', hperm', heq'⟩ := (s.takeReports ps).takeReports_eq ps'
  refine ⟨qs ++ qs', n', hperm.append hperm', ?_⟩
  rw [heq', heq, State.foldReports_withDraws, List.foldl_append]
  rfl

/-- A stage that takes reports of different keys, an occurrence for each cause that comes and each event and an end for
each cause that goes, reports as R90 to R99 and R110 have it. `u` is the state in which the reports are taken. -/
theorem State.reportsTo_of_fold {s u t : State} {event : FaultKind → Chan → Prop} {ps : List Report}
    (hkeys : (ps.map Report.key).Nodup)
    (hu : u.reaction = s.reaction ∧ u.coupling = s.coupling ∧ u.history = s.history ∧ u.timer = s.timer ∧
      u.images = s.images)
    (ht : t.reaction = (ps.foldl State.takeReport u).reaction ∧ t.coupling = (ps.foldl State.takeReport u).coupling ∧
      t.history = (ps.foldl State.takeReport u).history)
    (hoccurs : ∀ k c, .occurrence k c ∈ ps ↔ (s.cause k c = false ∧ t.cause k c = true) ∨ event k c)
    (hends : ∀ k c, .ended k c ∈ ps ↔ s.cause k c = true ∧ t.cause k c = false) : s.reportsTo t event := by
  obtain ⟨hreaction, hcoupling, hhistory, htimer, himages⟩ := hu
  obtain ⟨htreaction, htcoupling, hthistory⟩ := ht
  have hlevel := State.configuredLevel_eq himages
  have hactive : u.active = s.active := State.active_eq himages
  have hfaults : t.reaction.faults = s.reaction.faults.map (fun f => f.afterReports ps s.timer.cycleCount) ++
      ps.filterMap (newEntry s.reaction.faults s.timer.cycleCount) := by
    rw [htreaction, State.foldReports_faults, foldl_storeAfter hkeys, hreaction, htimer]
  have hadded : t.reaction.faults.drop s.reaction.faults.length =
      ps.filterMap (newEntry s.reaction.faults s.timer.cycleCount) := by
    rw [hfaults]
    exact List.drop_left' (List.length_map _)
  unfold State.reportsTo
  simp only [← hoccurs, ← hends, hadded]
  refine ⟨fun i f hf => ?_, (newEntries_keys_sublist _ _ _).nodup hkeys, fun e => mem_newEntries, fun g => ?_, fun g => ?_,
    fun r => ?_, ?_, ?_, fun htriggers => ?_, fun htriggers => ?_⟩
  · have hget : t.reaction.faults[i]? = some (f.afterReports ps s.timer.cycleCount) := by
      have hi : i < s.reaction.faults.length := (List.getElem?_eq_some_iff.mp hf).1
      rw [hfaults, List.getElem?_append_left (by simpa using hi), List.getElem?_map, hf]
      rfl
    rw [hget, FaultEntry.afterReports]
    refine ⟨fun hocc => ?_, fun hend => ?_, fun hocc hend => by rw [if_neg hocc, if_neg hend]⟩
    · rw [if_pos hocc, FaultEntry.again, satInc_eq_min]
    · have hocc : Report.occurrence f.kind f.scope ∉ ps := fun hocc => by
        cases List.inj_on_of_nodup_map hkeys hocc hend rfl
      rw [if_neg hocc, if_pos hend]
  · obtain ⟨hle, hbound, hreached⟩ := u.foldReports_levels ps g
    simp only [← htreaction, hreaction, hlevel, hactive] at hle hbound hreached
    exact ⟨hle, hbound, hreached⟩
  · rw [htcoupling, State.foldReports_coupling, ← htreaction, hreaction, hcoupling]
    exact GroupCoupling.afterLevelChange_onLevel _ _ _
  · rw [htreaction, State.foldReports_exclusions, hreaction]
    simp only [hlevel]
  · rw [htreaction, (u.foldReports_flags ps).1, hreaction]
  · rw [htreaction, (u.foldReports_flags ps).2, hreaction]
  · obtain ⟨k, c, hmem, htrigger⟩ := htriggers
    have hany : ps.any s.reportTriggers = true :=
      List.any_eq_true.mpr ⟨_, hmem, (s.triggers_iff k).mpr htrigger⟩
    rw [hthistory, State.foldReports_history, State.reportTriggers_eq himages, hany, hhistory, hactive]
    exact History.afterTrigger_trigger _ _
  · have hany : ps.any s.reportTriggers = false := by
      rw [Bool.eq_false_iff, ne_eq, List.any_eq_true]
      rintro ⟨p, hmem, hp⟩
      cases p with
      | occurrence k c => exact htriggers ⟨k, c, hmem, (s.triggers_iff k).mp hp⟩
      | ended k c => cases hp
    rw [hthistory, State.foldReports_history, State.reportTriggers_eq himages, hany, hhistory]
    rfl

end Sys2Proof.Machine
end

section
/-! Group functions as commands: the Demand that brings one, read back from its bytes (R117, R160, R167). -/

namespace Sys2Proof.Machine

/-! ### Fields read back from where they were written (R117) -/

theorem byteAt_append_right {pre : List Byte} {n : Nat} (h : pre.length = n) (post : List Byte) (i : Nat) :
    byteAt (pre ++ post) (n + i) = byteAt post i := by
  subst h
  unfold byteAt
  rw [List.getD_append_right _ _ _ _ (Nat.le_add_right _ _), Nat.add_sub_cancel_left]

theorem halfAt_append_right {pre : List Byte} {n : Nat} (h : pre.length = n) (post : List Byte) (i : Nat) :
    halfAt (pre ++ post) (n + i) = halfAt post i := by
  unfold halfAt
  rw [Nat.add_assoc, byteAt_append_right h, byteAt_append_right h]

theorem wordAt_append_right {pre : List Byte} {n : Nat} (h : pre.length = n) (post : List Byte) (i : Nat) :
    wordAt (pre ++ post) (n + i) = wordAt post i := by
  unfold wordAt
  rw [Nat.add_assoc, halfAt_append_right h, halfAt_append_right h]

/-- A 32-bit field is its two halves, the high one first. -/
theorem bytesOfWord_eq_halves (w : Word) :
    bytesOfWord w = bytesOfHalf ((w >>> 16).setWidth 16) ++ bytesOfHalf (w.setWidth 16) := by
  have hhigh : (w >>> 24).setWidth 8 = (((w >>> 16).setWidth 16 : Half) >>> 8).setWidth 8 := by
    ext i hi
    simp [show 8 + i < 16 by omega, ← Nat.add_assoc]
  have hmid : (w >>> 16).setWidth 8 = ((w >>> 16).setWidth 16 : Half).setWidth 8 := by
    ext i hi
    simp
  have hlow : (w >>> 8).setWidth 8 = ((w.setWidth 16 : Half) >>> 8).setWidth 8 := by
    ext i hi
    simp [show 8 + i < 16 by omega]
  have hlast : w.setWidth 8 = (w.setWidth 16 : Half).setWidth 8 := by
    ext i hi
    simp
  simp only [bytesOfWord, bytesOfHalf, List.cons_append, List.nil_append]
  rw [← hhigh, ← hmid, ← hlow, ← hlast]

theorem halves_join (w : Word) :
    (((w >>> 16).setWidth 16 : Half).setWidth 32 <<< 16) ||| (w.setWidth 16 : Half).setWidth 32 = w := by
  ext i hi
  by_cases h : i < 16
  · simp [h, BitVec.getLsbD_eq_getElem hi]
  · simp [h, show i - 16 < 16 by omega, show 16 + (i - 16) = i by omega, BitVec.getLsbD_eq_getElem hi]

/-- A 32-bit field read back from the four bytes it was written as. -/
theorem wordAt_bytesOfWord (w : Word) (post : List Byte) : wordAt (bytesOfWord w ++ post) 0 = w := by
  have hhigh := halfAt_bytesOfHalf [] (bytesOfHalf (w.setWidth 16) ++ post) ((w >>> 16).setWidth 16)
  have hlow := halfAt_bytesOfHalf (bytesOfHalf ((w >>> 16).setWidth 16)) post (w.setWidth 16)
  simp only [List.nil_append, List.length_nil, bytesOfHalf_length, List.append_assoc] at hhigh hlow
  rw [wordAt, bytesOfWord_eq_halves, List.append_assoc, hhigh, Nat.zero_add, hlow, halves_join]

/-- A run of 32-bit fields read back word by word. -/
theorem map_wordAt_bytesOfWords (ws : List Word) (post : List Byte) :
    ((List.range ws.length).map fun j => wordAt (bytesOfWords ws ++ post) (4 * j)) = ws := by
  induction ws with
  | nil => rfl
  | cons w ws ih =>
    have hsplit : bytesOfWords (w :: ws) ++ post = bytesOfWord w ++ (bytesOfWords ws ++ post) := by
      simp [bytesOfWords, List.append_assoc]
    have htail : ∀ j, wordAt (bytesOfWord w ++ (bytesOfWords ws ++ post)) (4 * (j + 1)) =
        wordAt (bytesOfWords ws ++ post) (4 * j) := fun j => by
      rw [Nat.mul_add, Nat.mul_one, Nat.add_comm, wordAt_append_right (bytesOfWord_length w)]
    rw [List.length_cons, List.range_succ_eq_map, List.map_cons, List.map_map, hsplit]
    refine congrArg₂ List.cons (wordAt_bytesOfWord w _) ?_
    refine Eq.trans (List.map_congr_left fun j _ => ?_) ih
    exact htail j

/-! ### The Demand of a request with destination PART (R117, R160) -/

/-- A request area with destination PART is read back as the request it was written from. -/
theorem requestOf_partArea {pre post : List Byte} {q : Request} (hpre : pre.length = 16) (hq : q.area.data.length = 8) :
    destinationOf (pre ++ partArea q ++ post) = 1 ∧ requestOf (pre ++ partArea q ++ post) = q := by
  have hwords : eightWords q.area.data = q.area.data := by simp [eightWords, hq]
  have harea : ∀ i, byteAt (pre ++ partArea q ++ post) (16 + i) = byteAt (partArea q ++ post) i := fun i => by
    rw [List.append_assoc, byteAt_append_right hpre]
  have hindex : halfAt (pre ++ partArea q ++ post) 20 = q.area.index := by
    have h := halfAt_bytesOfHalf (pre ++ [1, q.kind, q.area.tag, q.area.object])
      ([q.area.count] ++ bytesOfWords q.area.data ++ post) q.area.index
    simpa [partArea, hwords, hpre, List.append_assoc] using h
  have hdata : (List.range 8).map (fun j => wordAt (pre ++ partArea q ++ post) (23 + 4 * j)) = q.area.data := by
    have hstart : (pre ++ ([1, q.kind, q.area.tag, q.area.object] ++ bytesOfHalf q.area.index ++ [q.area.count])).length =
        23 := by simp [hpre]
    have hsplit : pre ++ partArea q ++ post =
        (pre ++ ([1, q.kind, q.area.tag, q.area.object] ++ bytesOfHalf q.area.index ++ [q.area.count])) ++
          (bytesOfWords q.area.data ++ post) := by
      simp only [partArea, hwords, List.append_assoc]
    rw [← hq, hsplit]
    refine Eq.trans (List.map_congr_left fun j _ => ?_) (map_wordAt_bytesOfWords q.area.data post)
    exact wordAt_append_right hstart _ _
  obtain ⟨kind, tag, object, index, count, data⟩ := q
  refine ⟨harea 0, ?_⟩
  simp only [requestOf, hindex, hdata]
  rw [harea 1, harea 2, harea 3, harea 6]
  rfl

@[simp] theorem functionRequest_dataWord (f : GroupFunction) (tag : Byte) :
    (functionRequest f tag).dataWord 0 = f.mask := rfl

theorem partArea_length (q : Request) : (partArea q).length = 39 := by
  simp [partArea]

/-- The Demand that brings a function is good, and brings its request to the unit (R117, R119, R167). -/
theorem functionDemand_good (f : GroupFunction) {c : Carrier} (h : c.slots.length = 12) :
    goodDemand (functionDemand f c) = true ∧ destinationOf (functionDemand f c) = 1 ∧
    requestOf (functionDemand f c) = functionRequest f c.tag := by
  have hpre : ([1, 0] ++ bytesOfHalf c.sequence ++ c.slots).length = 16 := by simp [h]
  refine ⟨sealed_good (n := 55) ?_ (by decide) rfl, requestOf_partArea hpre rfl⟩
  rw [List.length_append, hpre, partArea_length]

end Sys2Proof.Machine
end

section
/-! One group function at the start of the computation its Demand brings: how it is judged, answered and performed (R53,
R54, R56, R123, R167, R168). -/

namespace Sys2Proof.Machine

/-! ### The set of one function (R167) -/

theorem GroupFunction.bit_lt (f : GroupFunction) : f.bit < 16 := by
  cases f <;> simp only [GroupFunction.bit] <;> omega

/-- The functions stand in the order of their bits. -/
theorem groupFunctions_bit (f : GroupFunction) : groupFunctions[f.bit]? = some f := by
  cases f with
  | engage g => fin_cases g <;> rfl
  | release g => fin_cases g <;> rfl
  | clear g => fin_cases g <;> rfl
  | clearPart => rfl
  | capture => rfl
  | rearm => rfl
  | clearRestart => rfl

theorem GroupFunction.bit_injective {f f' : GroupFunction} (h : f.bit = f'.bit) : f = f' := by
  have hf := groupFunctions_bit f
  rw [h, groupFunctions_bit f'] at hf
  exact (Option.some.inj hf).symm

/-- The set with one function's bit holds that function and no other. -/
theorem inSet_mask (f f' : GroupFunction) : inSet f.mask f' = decide (f' = f) := by
  have hbit : f.bit < 32 := Nat.lt_trans f.bit_lt (by decide)
  rw [inSet, GroupFunction.mask, BitVec.getLsbD_twoPow]
  by_cases h : f' = f
  · subst h; simp [hbit]
  · have hne : f.bit ≠ f'.bit := fun e => h (GroupFunction.bit_injective e).symm
    simp [h, hne]

/-- No function's bit is one of those a GROUP_CONTROL is refused for (R167). -/
theorem mask_ushiftRight (f : GroupFunction) : f.mask >>> 16 = 0 := by
  have hbit := f.bit_lt
  ext i hi
  simp only [GroupFunction.mask, BitVec.getElem_ushiftRight, BitVec.getLsbD_twoPow]
  simp [show f.bit ≠ 16 + i by omega]

theorem mask_ne_zero (f : GroupFunction) : f.mask ≠ 0 := by
  have hset := inSet_mask f f
  intro h
  simp [h, inSet] at hset

theorem setOf_only (f : GroupFunction) : setOf (fun f' => decide (f' = f)) = f.mask := by
  cases f with
  | engage g => fin_cases g <;> rfl
  | release g => fin_cases g <;> rfl
  | clear g => fin_cases g <;> rfl
  | clearPart => rfl
  | capture => rfl
  | rearm => rfl
  | clearRestart => rfl

theorem setOf_none : setOf (fun _ => false) = 0 := rfl

/-! ### Judging and answering (R53, R167, R168) -/

theorem State.performs_mask (s : State) (f f' : GroupFunction) :
    s.performs f.mask f' = (decide (f' = f) && s.passes f.mask f) := by
  rw [State.performs, inSet_mask]
  by_cases h : f' = f
  · rw [h]
  · simp [h]

theorem State.rejects_mask (s : State) (f f' : GroupFunction) :
    s.rejects f.mask f' = (decide (f' = f) && !s.passes f.mask f) := by
  rw [State.rejects, inSet_mask]
  by_cases h : f' = f
  · rw [h]
  · simp [h]

/-- The response when a set's only function is performed (R168). -/
theorem State.setResponse_of_passes {s : State} {f : GroupFunction} (h : s.passes f.mask f = true) (tag : Byte) :
    s.setResponse (functionRequest f tag) =
      ⟨8, tag, .done, 0, 0, [f.mask, 0, 0, s.timer.cycleCount, 0, 0, 0, 0]⟩ := by
  have hdone : setOf (s.performs f.mask) = f.mask :=
    (congrArg setOf (funext fun f' => by rw [State.performs_mask, h, Bool.and_true])).trans (setOf_only f)
  have hnone : setOf (s.rejects f.mask) = 0 :=
    (congrArg setOf (funext fun f' => by rw [State.rejects_mask, h, Bool.not_true, Bool.and_false])).trans setOf_none
  simp only [State.setResponse, functionRequest_dataWord, hdone, hnone]
  rfl

/-- The response when a set's only function is rejected (R168). -/
theorem State.setResponse_of_fails {s : State} {f : GroupFunction} (h : s.passes f.mask f = false) (tag : Byte) :
    s.setResponse (functionRequest f tag) =
      ⟨8, tag, .refusedState, 0, 0, [0, f.mask, 0, s.timer.cycleCount, 0, 0, 0, 0]⟩ := by
  have hnone : setOf (s.performs f.mask) = 0 :=
    (congrArg setOf (funext fun f' => by rw [State.performs_mask, h, Bool.and_false])).trans setOf_none
  have hrejected : setOf (s.rejects f.mask) = f.mask :=
    (congrArg setOf (funext fun f' => by rw [State.rejects_mask, h, Bool.not_false, Bool.and_true])).trans (setOf_only f)
  have houtcome : setOutcome 0 f.mask = .refusedState := (if_neg (mask_ne_zero f)).trans (if_pos rfl)
  simp only [State.setResponse, functionRequest_dataWord, hnone, hrejected, houtcome]
  rfl

/-! ### The Demand that brings a function (R123, R139, R140) -/

/-- The resynchronisation rule drops a Demand that comes too soon while the link is LOST (R140). -/
theorem State.dropsDemand_iff (s : State) (moment : Nat) :
    s.dropsDemand moment = true ↔ s.timer.link = .lost ∧ s.tooSoon moment := by
  cases hlast : s.drivePort.lastTx <;>
    simp [State.dropsDemand, State.tooSoon, State.substituteReady, hlast, or_assoc]

/-- A valid Demand makes the link UP with a fresh deadline (R134, R135, R139). -/
theorem State.validDemand_timer (s : State) (moment : Nat) :
    (s.validDemand moment).timer =
      { s.timer with
        link := .up, nextExpiry := none, deadline := some (moment + s.active.linkTimeout * s.active.period) } := by
  unfold State.validDemand
  dsimp only
  split <;> simp

/-- A return from LOST ends the LINK_LOST cause (R139). -/
theorem State.validDemand_reaction (s : State) (moment : Nat) :
    (s.validDemand moment).reaction =
      { s.reaction with
        faults := if s.timer.link = .lost then endCause s.reaction.faults .linkLost 0 else s.reaction.faults } := by
  unfold State.validDemand
  dsimp only
  split <;> simp

/-- A Demand that is processed runs its computation from the state in which its request has been taken (R123). -/
theorem State.demandComes_of_processes {s : State} {elapsed : Nat} {bytes : List Byte}
    (h : s.processes (s.clock + elapsed)) (hg : goodDemand bytes = true) (course : Course) :
    s.demandComes elapsed course bytes =
      ((((s.withClock (s.clock + elapsed)).validDemand (s.clock + elapsed)).takeRequest bytes).accept
        bytes).processDemand bytes course 0 := by
  obtain ⟨halive, ⟨hcomputing, haccepted⟩, hpass, hsoon⟩ := h
  have hdrop : (s.tick elapsed).dropsDemand (s.clock + elapsed) = false := by
    rw [Bool.eq_false_iff, ne_eq, State.dropsDemand_iff]
    exact fun ⟨hlost, htoo⟩ => hsoon hlost htoo
  have hfree : (s.tick elapsed).demandInPassage = false := hpass
  have hreceive : (s.tick elapsed).receiveDemand bytes =
      (((s.withClock (s.clock + elapsed)).validDemand (s.clock + elapsed)).takeRequest bytes).accept bytes := by
    rw [State.receiveDemand, if_neg (by simp [hfree]), State.demandPassage, if_pos hg, State.goodDemandPassage]
    exact if_neg (Bool.eq_false_iff.mp hdrop)
  have hidle : ((((s.withClock (s.clock + elapsed)).validDemand (s.clock + elapsed)).takeRequest bytes).accept
      bytes).timer.computing = none := by
    simp [State.validDemand_timer, hcomputing]
  rw [State.demandComes, if_pos halive, hreceive]
  unfold State.runAccepted
  rw [hidle]
  rfl

theorem State.performControl_of_mask (s : State) (f : GroupFunction) (tag : Byte) :
    s.performControl (functionRequest f tag) = s :=
  if_neg (not_not.mpr (mask_ushiftRight f))

/-- The request of a function, handed to an empty queue, becomes the head and waits for a computation (R160, R167). -/
theorem State.handOver_function {s : State} (h : s.service.queue = []) (f : GroupFunction) (tag : Byte) :
    s.handOver (functionRequest f tag) = s.asHead (functionRequest f tag) := by
  rcases s.handOver_cases (functionRequest f tag) with ⟨-, -, hover⟩ | ⟨-, hne, -⟩ | ⟨hfull, -⟩
  · exact hover.trans (State.performControl_of_mask _ f tag)
  · exact absurd h hne
  · simp [h, Config.queueCapacity] at hfull

/-- The state in which the computation of a function's Demand starts: the link told, the request at the head (R123). -/
def State.withFunction (s : State) (f : GroupFunction) (c : Carrier) : State :=
  (((s.withClock (s.clock + c.elapsed)).validDemand (s.clock + c.elapsed)).asHead (functionRequest f c.tag)).accept
    (functionDemand f c)

theorem State.atFunctions_eq {s : State} {c : Carrier} (h : s.takesFunction c) (f : GroupFunction) :
    s.atFunctions f c = (s.withFunction f c).startWork (.cell (demandSlots (functionDemand f c))) := by
  obtain ⟨-, -, hqueue, -⟩ := h
  rw [State.atFunctions, State.handOver_function (by simpa using hqueue)]
  rfl

/-- What the start of that computation finds: nothing but the clock, the link, its cause and the head has changed. -/
theorem State.withFunction_frame (s : State) (f : GroupFunction) (c : Carrier) :
    (s.withFunction f c).images = s.images ∧ (s.withFunction f c).drivePort = s.drivePort ∧
    (s.withFunction f c).groupRef = s.groupRef ∧ (s.withFunction f c).rollerRef = s.rollerRef ∧
    (s.withFunction f c).coupling = s.coupling ∧ (s.withFunction f c).torque = s.torque ∧
    (s.withFunction f c).history = s.history ∧ (s.withFunction f c).timer.link = .up ∧
    (s.withFunction f c).timer.cycleCount = s.timer.cycleCount ∧
    (s.withFunction f c).service.queue = [functionRequest f c.tag] ∧
    (s.withFunction f c).service.progress = some .waiting := by
  simp [State.withFunction, State.asHead, State.validDemand_timer]

theorem State.withFunction_reaction (s : State) (f : GroupFunction) (c : Carrier) :
    (s.withFunction f c).reaction =
      { s.reaction with
        faults := if s.timer.link = .lost then causeEnded s.reaction.faults .linkLost 0 else s.reaction.faults } := by
  simp [State.withFunction, State.asHead, State.validDemand_reaction, endCause_eq]

/-- No commit is in flight, so the start of that computation counts no check and makes no copy. -/
theorem State.withFunction_countCheck {s : State} {c : Carrier} (h : s.takesFunction c) (f : GroupFunction) :
    (s.withFunction f c).countCheck = s.withFunction f c ∧ (s.withFunction f c).images.commit.state ≠ .ready := by
  obtain ⟨-, -, -, hcommit⟩ := h
  obtain ⟨himages, -⟩ := s.withFunction_frame f c
  exact ⟨State.countCheck_of_not_checking (by rw [himages, hcommit]; decide), by rw [himages, hcommit]; decide⟩

/-- The request waits at the head when its functions are judged (R53, R161). -/
theorem State.atFunctions_service {s : State} {c : Carrier} (h : s.takesFunction c) (f : GroupFunction) :
    (s.atFunctions f c).service.queue = [functionRequest f c.tag] ∧
    (s.atFunctions f c).service.progress = some .waiting := by
  obtain ⟨hcheck, hready⟩ := State.withFunction_countCheck h f
  obtain ⟨-, -, -, -, -, -, -, -, -, hqueue, hprogress⟩ := s.withFunction_frame f c
  rw [State.atFunctions_eq h, State.startWork_service_of_not_ready _ (by rwa [hcheck]), hcheck]
  exact ⟨hqueue, hprogress⟩

/-- A function command is judged and performed at the start of its Demand's computation, which then goes on (R53). -/
theorem State.function_eq {s : State} {c : Carrier} (h : s.takesFunction c) (f : GroupFunction) :
    s.function f c =
      (((s.atFunctions f c).performSet f.mask).answer
        ((s.atFunctions f c).setResponse (functionRequest f c.tag))).completes s f c := by
  obtain ⟨hqueue, hprogress⟩ := State.atFunctions_service h f
  have hpoint := State.groupFunctionPoint_of_waiting hqueue hprogress rfl
  rw [functionRequest_dataWord] at hpoint
  have heq := State.atFunctions_eq h f
  obtain ⟨hcheck, hready⟩ := State.withFunction_countCheck h f
  obtain ⟨-, hport, -⟩ := s.withFunction_frame f c
  obtain ⟨hprocesses, hslots, hempty, -⟩ := h
  obtain ⟨hgood, hdestination, hrequest⟩ := functionDemand_good f hslots
  have htaken : (((s.withClock (s.clock + c.elapsed)).validDemand (s.clock + c.elapsed)).takeRequest
      (functionDemand f c)).accept (functionDemand f c) = s.withFunction f c := by
    rw [State.takeRequest, if_pos hdestination, hrequest, State.handOver_function (by simpa using hempty)]
    rfl
  have hold : ((s.withFunction f c).beginCycle (.cell (demandSlots (functionDemand f c)))).replacedImage = none :=
    State.replacedImage_of_not_ready (by rw [State.beginCycle_images, hcheck]; exact hready)
  rw [State.function, State.demandComes_of_processes hprocesses hgood, htaken, State.processDemand,
    State.computeCycle, hold, hport, State.startCycle, ← heq, hpoint]
  rfl

/-- The state a function is judged against (R53): the count, the live writes and the exclusions are done, and the Demand
has made the link UP. -/
theorem atFunctions_effects {s : State} {c : Carrier} (h : s.takesFunction c) (f : GroupFunction) :
    let p := s.atFunctions f c
    p.timer.cycleCount = s.timer.cycleCount + 1 ∧ p.timer.link = .up ∧ p.coupling = s.coupling ∧
    p.history = s.history ∧ p.groupRef = s.groupRef ∧ p.torque = s.torque ∧
    p.images.active = applyLive s.images.active s.images.pendingLive ∧ p.images.pendingLive = [] ∧
    p.reaction = { s.reaction with
      exclusions := Quad.all false
      faults := if s.timer.link = .lost then causeEnded s.reaction.faults .linkLost 0 else s.reaction.faults } ∧
    ∀ r, p.rollerRef.get r =
      { s.rollerRef.get r with excluded := (s.rollerRef.get r).excluded || s.reaction.exclusions.get r } := by
  intro p
  obtain ⟨hcheck, hready⟩ := State.withFunction_countCheck h f
  obtain ⟨himages, -, hgroupRef, hrollerRef, hcoupling, htorque, hhistory, hlink, hcount, -, -⟩ :=
    s.withFunction_frame f c
  have hreaction := s.withFunction_reaction f c
  have hp : p = (s.withFunction f c).startWork (.cell (demandSlots (functionDemand f c))) := State.atFunctions_eq h f
  have hstart := State.startWork_images_of_not_ready (.cell (demandSlots (functionDemand f c)))
    (show (s.withFunction f c).countCheck.images.commit.state ≠ .ready by rwa [hcheck])
  rw [himages] at hstart
  rw [hp]
  refine ⟨?_, ?_, ?_, ?_, ?_, ?_, ?_, ?_, ?_, fun r => ?_⟩
  · rw [State.startWork_cycleCount, hcount]
  · rw [State.startWork_timer_cell]
    exact hlink
  · simp [hcoupling]
  · simp [hhistory]
  · simp [hgroupRef]
  · simp [htorque]
  · rw [hstart]
  · rw [hstart]
  · rw [State.startWork_reaction, hreaction]
  · rw [State.startWork_rollerRef, hrollerRef, hreaction]

/-! ### ENGAGE and RELEASE (R54, R56) -/

/-- A set that only steers groups does nothing else. -/
theorem State.performSet_of_steering {s : State} {w : Word} (hclear : clears w = false) (hrearm : inSet w .rearm = false)
    (hcapture : inSet w .capture = false) (hrestart : inSet w .clearRestart = false) :
    s.performSet w = s.steerGroups w := by
  have hfaults : (s.steerGroups w).clearFaults w = s.steerGroups w := if_neg (by simp [hclear])
  have hperforms : s.performs w .capture = false := by simp [State.performs, hcapture]
  rw [State.performSet, hfaults, hperforms, State.steerHistory, State.clearRestartFlag, hrearm, hrestart]
  rfl

theorem clears_mask_engage (g : Chan) : clears (GroupFunction.engage g).mask = false := by
  simp [clears, inSet_mask]

theorem clears_mask_release (g : Chan) : clears (GroupFunction.release g).mask = false := by
  simp [clears, inSet_mask]

theorem State.engageMayStart_iff (s : State) (g : Chan) :
    s.engageMayStart g = true ↔ (s.coupling.get g).state = .detached ∧ s.reaction.restart = false ∧
      (s.reaction.levels.get g).code ≤ 1 ∧ s.timer.link = .up := by
  simp [State.engageMayStart, and_assoc]

theorem Image.mem_members {img : Image} {g r : Chan} : r ∈ img.members g ↔ img.groupOf r = some g := by
  simp [Image.members, Image.isMember]

/-- The members an ENGAGE finds included: the configured ones of a coupling group (R22, R23). -/
theorem includedUnmarked_members (s : State) (g : Chan) :
    includedMembers s.active s.includedUnmarked g =
      if s.active.isCouplingGroup g then s.active.configuredMembers g else [] := by
  have hincluded : ∀ r ∈ s.active.members g,
      s.includedUnmarked r = (s.active.isCouplingGroup g && s.active.configured r) := fun r hr => by
    simp [State.includedUnmarked, includes, Image.inCouplingGroup, Image.mem_members.mp hr]
  rw [includedMembers, List.filter_congr hincluded]
  cases s.active.isCouplingGroup g <;> simp [Image.configuredMembers]

theorem contributingUnmarked_members (s : State) (g : Chan) :
    contributingMembers s.active s.includedUnmarked g =
      if s.active.isCouplingGroup g then s.active.weightedMembers g else [] := by
  rw [contributingMembers, includedUnmarked_members]
  split <;> rfl

/-- Two configured members make a coupling group, so R54's test counts the configured members. -/
theorem State.engageHasMembers_iff (s : State) (g : Chan) :
    s.engageHasMembers g = true ↔
      2 ≤ (s.active.configuredMembers g).length ∧ 1 ≤ (s.active.weightedMembers g).length := by
  rw [State.engageHasMembers, includedUnmarked_members, contributingUnmarked_members]
  by_cases hcouples : s.active.isCouplingGroup g = true
  · simp [hcouples]
  · have hfew : (s.active.configuredMembers g).length < 2 := by
      have hmembers : ¬ 2 ≤ (s.active.members g).length := fun h => hcouples (decide_eq_true h)
      exact Nat.lt_of_le_of_lt (List.length_filter_le _ _) (by omega)
    simp [hcouples]
    omega

/-- ENGAGE as a set's only function passes by R54's five conditions. -/
theorem State.passes_engage (s : State) (g : Chan) :
    s.passes (GroupFunction.engage g).mask (.engage g) = (s.engageMayStart g && s.engageHasMembers g) := by
  simp [State.passes, inSet_mask]

/-- RELEASE as a set's only function passes from ENGAGING or COUPLED (R56). -/
theorem State.passes_release (s : State) (g : Chan) :
    s.passes (GroupFunction.release g).mask (.release g) = (s.coupling.get g).state.couples := by
  simp [State.passes, inSet_mask]

/-- A test that singles out one group singles out that group's rollers. -/
theorem State.groupTest_only {s : State} {p : Chan → Bool} {g : Chan} {b : Bool}
    (hp : ∀ g', p g' = (decide (g' = g) && b)) (r : Chan) :
    s.groupTest p r = (decide (s.active.groupOf r = some g) && b) := by
  unfold State.groupTest
  cases s.active.groupOf r with
  | none => simp
  | some g' => simp [hp]

/-- A pack that differs from another in one record, under a condition. -/
theorem ofFn_eq_ite_set {α : Type} {q : Quad α} {f : Chan → α} {i : Chan} {x : α} {b : Bool}
    (hset : b = true → f i = x) (hkeep : ∀ j, (decide (j = i) && b) = false → f j = q.get j) :
    Quad.ofFn f = if b then q.set i x else q := by
  refine Quad.ext_get fun j => ?_
  rw [Quad.get_ofFn]
  cases b with
  | false => exact hkeep j (Bool.and_false _)
  | true =>
    by_cases h : j = i
    · subst h
      simp [hset rfl]
    · simp [hkeep j (by simp [h]), Quad.get_set_other _ h]

/-- One ENGAGE: the group enters ENGAGING when it passes, and its marks and counts are taken anew when the first four
conditions hold (R54). -/
theorem State.steerGroups_engage (s : State) (g : Chan) :
    s.steerGroups (GroupFunction.engage g).mask =
      (((s.withCoupling (if s.engageMayStart g && s.engageHasMembers g then
          s.coupling.set g ⟨.engaging, 1, false⟩ else s.coupling)).withGroupRef
        (if s.engageMayStart g then s.groupRef.set g { s.groupRef.get g with
            includedCount := (includedMembers s.active s.includedUnmarked g).length
            contributingCount := (contributingMembers s.active s.includedUnmarked g).length } else s.groupRef)).withRollerRef
        (if s.engageMayStart g then Quad.ofFn fun r =>
            if s.active.groupOf r = some g then { s.rollerRef.get r with excluded := false } else s.rollerRef.get r
          else s.rollerRef)).withTorque
        (if s.engageMayStart g && s.engageHasMembers g then Quad.ofFn fun r =>
            if s.active.groupOf r = some g then (s.torque.get r).engaged else s.torque.get r
          else s.torque) := by
  have hengages : ∀ g', s.performs (GroupFunction.engage g).mask (.engage g') =
      (decide (g' = g) && (s.engageMayStart g && s.engageHasMembers g)) := fun g' => by
    simp [State.performs_mask, State.passes_engage]
  have hreleases : ∀ g', s.performs (GroupFunction.engage g).mask (.release g') = false := fun g' => by
    simp [State.performs_mask]
  have hclears : ∀ g', s.clearsMarks (GroupFunction.engage g).mask g' = (decide (g' = g) && s.engageMayStart g) :=
    fun g' => by
      by_cases h : g' = g
      · simp [State.clearsMarks, inSet_mask, h]
      · simp [State.clearsMarks, inSet_mask, h]
  unfold State.steerGroups
  congr 1
  congr 1
  congr 1
  congr 1
  · refine ofFn_eq_ite_set (fun hb => ?_) (fun g' hg' => ?_)
    · rw [State.steered, hengages, hb, decide_eq_true rfl]; rfl
    · rw [State.steered, hengages, hreleases, hg']; rfl
  · refine ofFn_eq_ite_set (fun hb => ?_) (fun g' hg' => ?_)
    · rw [State.recounted, hclears, hb, decide_eq_true rfl]; rfl
    · rw [State.recounted, hclears, hg']; rfl
  · simp only [State.groupTest_only hclears]
    refine Quad.ext_get fun r => ?_
    cases s.engageMayStart g <;> by_cases hr : s.active.groupOf r = some g <;> simp [hr]
  · simp only [State.groupTest_only hengages]
    refine Quad.ext_get fun r => ?_
    cases s.engageMayStart g && s.engageHasMembers g <;> simp

/-- One RELEASE: the group enters RELEASING when it passes, and nothing else changes (R56). -/
theorem State.steerGroups_release (s : State) (g : Chan) :
    s.steerGroups (GroupFunction.release g).mask =
      s.withCoupling (if (s.coupling.get g).state.couples then s.coupling.set g (s.coupling.get g).released
        else s.coupling) := by
  have hengages : ∀ g', s.performs (GroupFunction.release g).mask (.engage g') = false := fun g' => by
    simp [State.performs_mask]
  have hreleases : ∀ g', s.performs (GroupFunction.release g).mask (.release g') =
      (decide (g' = g) && (s.coupling.get g).state.couples) := fun g' => by
    simp [State.performs_mask, State.passes_release]
  have hclears : ∀ g', s.clearsMarks (GroupFunction.release g).mask g' = false := fun g' => by
    simp [State.clearsMarks, inSet_mask]
  have htest : ∀ {p : Chan → Bool}, (∀ g', p g' = false) → ∀ r, s.groupTest p r = false := fun hp r => by
    simpa using State.groupTest_only (g := g) (b := false) (fun g' => by simp [hp]) r
  have hcoupling : Quad.ofFn (s.steered (GroupFunction.release g).mask) =
      if (s.coupling.get g).state.couples then s.coupling.set g (s.coupling.get g).released else s.coupling := by
    refine ofFn_eq_ite_set (fun hb => ?_) (fun g' hg' => ?_)
    · rw [State.steered, hengages, hreleases, hb, decide_eq_true rfl]; rfl
    · rw [State.steered, hengages, hreleases, hg']; rfl
  have hrecounted : Quad.ofFn (s.recounted (GroupFunction.release g).mask) = s.groupRef :=
    Quad.ext_get fun g' => by simp [State.recounted, hclears]
  have hmarks : Quad.ofFn (fun r => { s.rollerRef.get r with
      excluded := (s.rollerRef.get r).excluded && !s.groupTest (s.clearsMarks (GroupFunction.release g).mask) r }) =
      s.rollerRef := Quad.ext_get fun r => by simp [htest hclears]
  have htorque : Quad.ofFn (fun r =>
      if s.groupTest (fun g' => s.performs (GroupFunction.release g).mask (.engage g')) r then (s.torque.get r).engaged
      else s.torque.get r) = s.torque := Quad.ext_get fun r => by simp [htest hengages]
  rw [State.steerGroups, hcoupling, hrecounted, hmarks, htorque]
  rfl

/-! ### The commands -/

theorem exec_engage (g : Chan) {c : Carrier} {s : State} (h : s.takesFunction c) :
    exec (.engage g c) s =
      .next ((((s.atFunctions (.engage g) c).steerGroups (GroupFunction.engage g).mask).answer
        ((s.atFunctions (.engage g) c).setResponse (functionRequest (.engage g) c.tag))).completes s (.engage g) c) := by
  show Host.Outcome.next (s.function (.engage g) c) = _
  rw [State.function_eq h, State.performSet_of_steering (clears_mask_engage g) (inSet_mask _ _) (inSet_mask _ _)
    (inSet_mask _ _)]

theorem exec_release (g : Chan) {c : Carrier} {s : State} (h : s.takesFunction c) :
    exec (.release g c) s =
      .next ((((s.atFunctions (.release g) c).steerGroups (GroupFunction.release g).mask).answer
        ((s.atFunctions (.release g) c).setResponse (functionRequest (.release g) c.tag))).completes s
          (.release g) c) := by
  show Host.Outcome.next (s.function (.release g) c) = _
  rw [State.function_eq h, State.performSet_of_steering (clears_mask_release g) (inSet_mask _ _) (inSet_mask _ _)
    (inSet_mask _ _)]

/-- Settles O58: the function's set is judged against the state the computation's start leaves, and what it steers and
answers follows the conditions of R54 and R56. -/
theorem engageAndReleaseJudged : Obligations.EngageAndReleaseJudged := by
  refine ⟨fun f c s h => atFunctions_effects h f, fun g c s h => ?_, fun g c s h => ?_⟩
  · intro f p bit may has performed rejected recount unmarked
    have hexec : exec (.engage g c) s = .next (((p.steerGroups f.mask).answer
      (p.setResponse (functionRequest f c.tag))).completes s f c) := exec_engage g h
    clear_value p
    have hmay : may ↔ p.engageMayStart g = true := (p.engageMayStart_iff g).symm
    have hhas : has ↔ p.engageHasMembers g = true := (p.engageHasMembers_iff g).symm
    have hrecount : { p.groupRef.get g with
        includedCount := (includedMembers p.active p.includedUnmarked g).length
        contributingCount := (contributingMembers p.active p.includedUnmarked g).length } = recount := by
      rw [includedUnmarked_members, contributingUnmarked_members, apply_ite List.length, apply_ite List.length]
      rfl
    have hpasses := p.passes_engage g
    refine ⟨fun hm hh => ?_, fun hm hh => ?_, fun hm => ?_⟩
    · rw [hmay] at hm
      rw [hhas] at hh
      rw [hm, hh] at hpasses
      rw [hexec, State.setResponse_of_passes hpasses, State.steerGroups_engage, hrecount, hm, hh]
      rfl
    · rw [hmay] at hm
      rw [hhas, Bool.not_eq_true] at hh
      rw [hm, hh] at hpasses
      rw [hexec, State.setResponse_of_fails hpasses, State.steerGroups_engage, hrecount, hm, hh]
      rfl
    · rw [hmay, Bool.not_eq_true] at hm
      rw [hm] at hpasses
      rw [hexec, State.setResponse_of_fails hpasses, State.steerGroups_engage, hm]
      rfl
  · intro f p bit couples
    have hexec : exec (.release g c) s = .next (((p.steerGroups f.mask).answer
      (p.setResponse (functionRequest f c.tag))).completes s f c) := exec_release g h
    clear_value p
    have hcouples : couples ↔ (p.coupling.get g).state.couples = true := by
      simp [couples, GroupState.couples]
    have hpasses := p.passes_release g
    refine ⟨fun hc => ?_, fun hc => ?_⟩
    · rw [hcouples] at hc
      rw [hexec, State.setResponse_of_passes (hpasses.trans hc), State.steerGroups_release, hc]
      rfl
    · rw [hcouples, Bool.not_eq_true] at hc
      rw [hexec, State.setResponse_of_fails (hpasses.trans hc), State.steerGroups_release, hc]
      rfl

end Sys2Proof.Machine
end

section
/-! The speed settling stage: the case each roller falls under, its causes, and what the stage reports (R7 to R18). -/

namespace Sys2Proof.Machine

/-! ### The reports of a cause's change (R90) -/

theorem mem_causeChange_occurrence {k k' : FaultKind} {c c' : Chan} {before after : Bool} :
    .occurrence k' c' ∈ causeChange k c before after ↔ (k' = k ∧ c' = c) ∧ before = false ∧ after = true := by
  cases before <;> cases after <;> simp [causeChange]

theorem mem_causeChange_ended {k k' : FaultKind} {c c' : Chan} {before after : Bool} :
    .ended k' c' ∈ causeChange k c before after ↔ (k' = k ∧ c' = c) ∧ before = true ∧ after = false := by
  cases before <;> cases after <;> simp [causeChange]

theorem causeChange_keys_sublist (k : FaultKind) (c : Chan) (before after : Bool) :
    ((causeChange k c before after).map Report.key).Sublist [(k, c)] := by
  cases before <;> cases after <;> simp [causeChange, Report.key]

/-! ### The case of a roller (R10) -/

/-- The commit copy at the start of the computation forces the roller's re-seed (R18). -/
def reseedForced (old : Option Image) (img : Image) (r : Chan) : Prop :=
  ∃ o, old = some o ∧ (img.pitch r ≠ o.pitch r ∨ img.roller r 4 ≠ o.roller r 4 ∨ img.slotOf r ≠ o.slotOf r ∨
    img.periodCode ≠ o.periodCode)

theorem reseedForced_iff (old : Option Image) (img : Image) (r : Chan) :
    old.any (fun o => forcesReseed o img r) = true ↔ reseedForced old img r := by
  have hpitch : ∀ o : Image, img.roller r 5 ≠ o.roller r 5 ↔ img.pitch r ≠ o.pitch r := fun o =>
    not_congr BitVec.toNat_inj.symm
  cases old with
  | none => simp [reseedForced]
  | some o => simp [reseedForced, forcesReseed, ← hpitch, or_assoc]

/-- The settling of a commit caps the number of cycles the next delta spans, and changes nothing else (R18). -/
theorem Acquisition.capAfterCommit_eq (a : Acquisition) (old : Option Image) (limit : Nat) :
    a.capAfterCommit old limit = { a with k := if old = none then a.k else min a.k (limit + 1) } := by
  cases old <;> rfl

section
variable {a : Acquisition} {img : Image} {old : Option Image} {sent : Bool} {r : Chan}

/-- An unconfigured roller and a forced re-seed (R17, R18). -/
theorem Acquisition.settle_of_unseated (h : img.pitch r = 0 ∨ reseedForced old img r) :
    a.settle img old sent r = ⟨a.unseat, false⟩ := by
  unfold Acquisition.settle
  by_cases hpitch : img.pitch r = 0
  · rw [if_pos hpitch]
  · rw [if_neg hpitch, if_pos ((reseedForced_iff old img r).mpr (h.resolve_left hpitch))]

/-- The remaining cases of R10, with the span capped by a commit's settling. -/
theorem Acquisition.settle_of_seated (hpitch : img.pitch r ≠ 0) (hforced : ¬ reseedForced old img r) :
    a.settle img old sent r =
      a.pendingSample.elim
        (if sent then ⟨(a.capAfterCommit old (img.staleLimit r)).staleCycle (img.staleLimit r), false⟩
          else ⟨{ a.capAfterCommit old (img.staleLimit r) with staleFlag := false }, false⟩)
        ((a.capAfterCommit old (img.staleLimit r)).settleSample img r) := by
  have hsample : (a.capAfterCommit old (img.staleLimit r)).pendingSample = a.pendingSample := by
    rw [Acquisition.capAfterCommit_eq]
  rw [Acquisition.settle, if_neg hpitch, if_neg (fun h => hforced ((reseedForced_iff old img r).mp h))]
  simp only [hsample]
  cases a.pendingSample <;> rfl

/-- A seeding sample, and a re-seeding one after the longest span (R13). -/
theorem Acquisition.settleSample_of_seed {c : Word} (h : a.seeded = false ∨ a.k = img.staleLimit r + 1) :
    a.settleSample img r c = ⟨a.seed c, false⟩ := by
  rcases h with h | h <;> simp [Acquisition.settleSample, h]

/-- The speed a sample gives (R7, R8). -/
def Acquisition.speedOf (a : Acquisition) (img : Image) (r : Chan) (c : Word) : Int :=
  roundDiv (positionDelta c a.cLast (img.invert r) * img.pitch r * img.speedScale) (65536 * a.k)

/-- A sample of a seeded roller is implausible or accepted by its speed (R9, R11). -/
theorem Acquisition.settleSample_of_seeded {c : Word} (hseeded : a.seeded = true) (hk : a.k ≠ img.staleLimit r + 1) :
    a.settleSample img r c =
      if img.vmax r < |a.speedOf img r c| then ⟨a.staleCycle (img.staleLimit r), true⟩
      else ⟨a.accept c (a.speedOf img r c), false⟩ := by
  rw [Acquisition.settleSample, hseeded, if_neg (by simp), if_neg hk]
  rfl

section
variable {n : Nat} (hn : n = if old = none then a.k else min a.k (img.staleLimit r + 1)) (hpitch : img.pitch r ≠ 0)
  (hforced : ¬ reseedForced old img r)
include hn hpitch hforced

/-- No sample can have come before the first transmission: the roller is not stale (R10). -/
theorem Acquisition.settle_of_unsent (hnone : a.pendingSample = none) :
    a.settle img old false r = ⟨{ a with k := n, staleFlag := false }, false⟩ := by
  rw [Acquisition.settle_of_seated hpitch hforced, Acquisition.capAfterCommit_eq, ← hn]
  simp [hnone]

/-- A stale cycle (R12). -/
theorem Acquisition.settle_of_missing (hnone : a.pendingSample = none) :
    a.settle img old true r = ⟨{ a with k := n }.staleCycle (img.staleLimit r), false⟩ := by
  rw [Acquisition.settle_of_seated hpitch hforced, hnone, Acquisition.capAfterCommit_eq, hn]
  rfl

/-- A sample that comes to a roller not seeded, or at the longest span (R13). -/
theorem Acquisition.settle_of_seed {c : Word} (hsome : a.pendingSample = some c)
    (h : a.seeded = false ∨ n = img.staleLimit r + 1) :
    a.settle img old sent r = ⟨{ a with k := n }.seed c, false⟩ := by
  rw [Acquisition.settle_of_seated hpitch hforced, hsome, Acquisition.capAfterCommit_eq, ← hn]
  exact Acquisition.settleSample_of_seed h

/-- A sample that gives a speed is judged by it (R9, R11). -/
theorem Acquisition.settle_of_seeded {c : Word} (hsome : a.pendingSample = some c) (hseeded : a.seeded = true)
    (hk : n ≠ img.staleLimit r + 1) :
    a.settle img old sent r =
      if img.vmax r < |{ a with k := n }.speedOf img r c| then ⟨{ a with k := n }.staleCycle (img.staleLimit r), true⟩
      else ⟨{ a with k := n }.accept c ({ a with k := n }.speedOf img r c), false⟩ := by
  rw [Acquisition.settle_of_seated hpitch hforced, hsome, Acquisition.capAfterCommit_eq, ← hn]
  exact Acquisition.settleSample_of_seeded hseeded hk

end

/-- A configured roller's sample is implausible when its speed may be computed and lies beyond Vmax (R9). -/
theorem Acquisition.settleSample_implausible_iff {c : Word} :
    (a.settleSample img r c).implausible = true ↔
      a.seeded = true ∧ a.k ≠ img.staleLimit r + 1 ∧ img.vmax r < |a.speedOf img r c| := by
  by_cases hseed : a.seeded = false ∨ a.k = img.staleLimit r + 1
  · rw [Acquisition.settleSample_of_seed hseed]
    refine iff_of_false Bool.false_ne_true fun ⟨hseeded, hk, _⟩ => ?_
    exact hseed.elim (fun h => by simp [h] at hseeded) hk
  · obtain ⟨hseeded, hk⟩ := not_or.mp hseed
    rw [Bool.not_eq_false] at hseeded
    rw [Acquisition.settleSample_of_seeded hseeded hk]
    split
    case isTrue hv => exact iff_of_true rfl ⟨hseeded, hk, hv⟩
    case isFalse hv => exact iff_of_false Bool.false_ne_true fun ⟨_, _, hbeyond⟩ => hv hbeyond

/-- A roller's sample is implausible in the sixth case of R10 alone (R9). -/
theorem Acquisition.settle_implausible_iff :
    (a.settle img old sent r).implausible = true ↔
      img.pitch r ≠ 0 ∧ ¬ reseedForced old img r ∧
      ∃ c, a.pendingSample = some c ∧
        ((a.capAfterCommit old (img.staleLimit r)).settleSample img r c).implausible = true := by
  by_cases hunseated : img.pitch r = 0 ∨ reseedForced old img r
  · rw [Acquisition.settle_of_unseated hunseated]
    exact iff_of_false Bool.false_ne_true fun ⟨hpitch, hforced, _⟩ => hunseated.elim hpitch hforced
  obtain ⟨hpitch, hforced⟩ := not_or.mp hunseated
  rw [Acquisition.settle_of_seated hpitch hforced]
  cases hsample : a.pendingSample with
  | none =>
    refine iff_of_false ?_ fun ⟨_, _, c, hc, _⟩ => nomatch hc
    cases sent <;> exact Bool.false_ne_true
  | some c => simp [hpitch, hforced]

/-- A sample that is settled is taken, and the settling leaves the drive status and the late counter (R5, R6). -/
theorem Acquisition.settleSample_frame (a : Acquisition) (img : Image) (r : Chan) (c : Word) :
    (a.settleSample img r c).record.pendingSample = none ∧ (a.settleSample img r c).record.status = a.status ∧
    (a.settleSample img r c).record.lateCount = a.lateCount := by
  unfold Acquisition.settleSample
  dsimp only
  split
  · exact ⟨rfl, rfl, rfl⟩
  · split
    · exact ⟨rfl, rfl, rfl⟩
    · split <;> exact ⟨rfl, rfl, rfl⟩

/-- Every case of a settling leaves no sample pending, and the drive status and the late counter as they were. -/
theorem Acquisition.settle_frame (a : Acquisition) (img : Image) (old : Option Image) (sent : Bool) (r : Chan) :
    (a.settle img old sent r).record.pendingSample = none ∧ (a.settle img old sent r).record.status = a.status ∧
    (a.settle img old sent r).record.lateCount = a.lateCount := by
  by_cases hunseated : img.pitch r = 0 ∨ reseedForced old img r
  · rw [Acquisition.settle_of_unseated hunseated]
    exact ⟨rfl, rfl, rfl⟩
  obtain ⟨hpitch, hforced⟩ := not_or.mp hunseated
  rw [Acquisition.settle_of_seated hpitch hforced]
  cases hsample : a.pendingSample with
  | none =>
    rw [Acquisition.capAfterCommit_eq]
    cases sent with
    | false => exact ⟨hsample, rfl, rfl⟩
    | true => exact ⟨rfl, rfl, rfl⟩
  | some c =>
    have hframe := (a.capAfterCommit old (img.staleLimit r)).settleSample_frame img r c
    rw [Acquisition.capAfterCommit_eq] at hframe ⊢
    exact hframe

end

/-! ### The reports of the stage (R9, R14, R16) -/

section
variable (s : State) (old : Option Image) (sent : Bool)

/-- The stage's occurrences: the implausible samples and the causes that come. -/
theorem mem_settling_occurrence (k : FaultKind) (c : Chan) :
    .occurrence k c ∈ s.implausibleReports old sent ++ s.settlingReports old sent ↔
      (k = .speedImplausible ∧ (s.settled old sent c).implausible = true) ∨
      (k = .feedbackStale ∧ (s.acq.get c).feedbackStale = false ∧
        staleCause s.active c (s.settled old sent c).record = true) ∨
      (k = .driveFault ∧ (s.acq.get c).driveFault = false ∧
        faultCause s.active c (s.settled old sent c).record = true) := by
  have himplausible : .occurrence k c ∈ s.implausibleReports old sent ↔
      k = .speedImplausible ∧ (s.settled old sent c).implausible = true := by
    have hreport : ∀ r, .occurrence k c ∈
        (if (s.settled old sent r).implausible = true then [Report.occurrence .speedImplausible r] else []) ↔
          r = c ∧ k = .speedImplausible ∧ (s.settled old sent r).implausible = true := fun r => by
      split
      case isTrue h => simp [h, and_comm, eq_comm]
      case isFalse h => simp [h]
    simp [State.implausibleReports, List.mem_flatMap, hreport]
  have hcauses : .occurrence k c ∈ s.settlingReports old sent ↔
      (k = .feedbackStale ∧ (s.acq.get c).feedbackStale = false ∧
        staleCause s.active c (s.settled old sent c).record = true) ∨
      (k = .driveFault ∧ (s.acq.get c).driveFault = false ∧
        faultCause s.active c (s.settled old sent c).record = true) := by
    simp only [State.settlingReports, List.mem_flatMap, List.mem_append, mem_causeChange_occurrence, mem_channels,
      true_and]
    constructor
    · rintro ⟨r, ⟨⟨hk, rfl⟩, h⟩ | ⟨⟨hk, rfl⟩, h⟩⟩
      · exact .inl ⟨hk, h⟩
      · exact .inr ⟨hk, h⟩
    · rintro (⟨hk, h⟩ | ⟨hk, h⟩)
      · exact ⟨c, .inl ⟨⟨hk, rfl⟩, h⟩⟩
      · exact ⟨c, .inr ⟨⟨hk, rfl⟩, h⟩⟩
  rw [List.mem_append, himplausible, hcauses]

/-- The stage's ends: the causes that go. -/
theorem mem_settling_ended (k : FaultKind) (c : Chan) :
    .ended k c ∈ s.implausibleReports old sent ++ s.settlingReports old sent ↔
      (k = .feedbackStale ∧ (s.acq.get c).feedbackStale = true ∧
        staleCause s.active c (s.settled old sent c).record = false) ∨
      (k = .driveFault ∧ (s.acq.get c).driveFault = true ∧
        faultCause s.active c (s.settled old sent c).record = false) := by
  have himplausible : .ended k c ∉ s.implausibleReports old sent := fun h => by
    obtain ⟨r, -, hr⟩ := List.mem_flatMap.mp h
    split at hr <;> simp at hr
  rw [List.mem_append, or_iff_right himplausible]
  simp only [State.settlingReports, List.mem_flatMap, List.mem_append, mem_causeChange_ended, mem_channels, true_and]
  constructor
  · rintro ⟨r, ⟨⟨hk, rfl⟩, h⟩ | ⟨⟨hk, rfl⟩, h⟩⟩
    · exact .inl ⟨hk, h⟩
    · exact .inr ⟨hk, h⟩
  · rintro (⟨hk, h⟩ | ⟨hk, h⟩)
    · exact ⟨c, .inl ⟨⟨hk, rfl⟩, h⟩⟩
    · exact ⟨c, .inr ⟨⟨hk, rfl⟩, h⟩⟩

/-- The keys the stage may report, each once. -/
def settlingKeys : List (FaultKind × Chan) :=
  (channels.flatMap fun r => [(.speedImplausible, r)]) ++
    channels.flatMap fun r => [(.feedbackStale, r), (.driveFault, r)]

/-- The stage reports each key once at most (R90). -/
theorem settling_keys_nodup :
    ((s.implausibleReports old sent ++ s.settlingReports old sent).map Report.key).Nodup := by
  have hsub : ((s.implausibleReports old sent ++ s.settlingReports old sent).map Report.key).Sublist settlingKeys := by
    rw [List.map_append, State.implausibleReports, State.settlingReports, List.map_flatMap, List.map_flatMap]
    refine .append (List.Sublist.flatMap_right _ fun r _ => ?_) (List.Sublist.flatMap_right _ fun r _ => ?_)
    · split
      · exact .refl _
      · exact List.nil_sublist _
    · rw [List.map_append]
      exact (causeChange_keys_sublist _ _ _ _).append (causeChange_keys_sublist _ _ _ _)
  exact hsub.nodup (by decide)

/-- The state in which the stage takes its reports: the window closed, each roller settled. -/
def State.settledState : State :=
  (s.withWindow none).withAcq (Quad.ofFn fun r => (s.settled old sent r).record.withCauses s.active r)

/-- The stage settles the rollers and takes its reports, in some order (R96). -/
theorem State.speedSettling_eq :
    ∃ (ps : List Report) (n : Nat), ps.Perm (s.implausibleReports old sent ++ s.settlingReports old sent) ∧
      s.speedSettling old sent = (ps.foldl State.takeReport (s.settledState old sent)).withDraws n :=
  State.takeReports_twice _ _ _

theorem State.speedSettling_acq (r : Chan) :
    (s.speedSettling old sent).acq.get r = (s.settled old sent r).record.withCauses s.active r := by
  simp [State.speedSettling]

/-- The causes of every other kind stand as they stood. -/
theorem State.speedSettling_cause {k : FaultKind} (hstale : k ≠ .feedbackStale) (hfault : k ≠ .driveFault) (c : Chan) :
    (s.speedSettling old sent).cause k c = s.cause k c := by
  cases k with
  | feedbackStale => exact absurd rfl hstale
  | driveFault => exact absurd rfl hfault
  | estop => simp [State.cause, State.speedSettling]
  | _ => simp [State.cause]

/-- An implausible sample's entry carries this computation's count (R9, R94). -/
theorem State.speedSettling_implausible_entry {r : Chan} (h : (s.settled old sent r).implausible = true) :
    ∃ f ∈ (s.speedSettling old sent).reaction.faults, f.key = (.speedImplausible, r) ∧ f.last = s.timer.cycleCount := by
  obtain ⟨ps, n, hperm, heq⟩ := s.speedSettling_eq old sent
  have hmem : .occurrence .speedImplausible r ∈ ps :=
    hperm.mem_iff.mpr ((mem_settling_occurrence s old sent _ r).mpr (.inl ⟨rfl, h⟩))
  have hkeys : (ps.map Report.key).Nodup := (hperm.map _).nodup_iff.mpr (settling_keys_nodup s old sent)
  rw [heq, State.withDraws_reaction, State.foldReports_faults]
  exact exists_entry_of_occurrence hkeys _ _ hmem

/-- Beside the window, the acquisition records and the draws the stage changes what reports change and nothing else. -/
theorem State.speedSettling_only :
    s.speedSettling old sent =
      (((((s.withWindow none).withAcq (s.speedSettling old sent).acq).withReaction
        (s.speedSettling old sent).reaction).withCoupling (s.speedSettling old sent).coupling).withHistory
        (s.speedSettling old sent).history).withDraws (s.speedSettling old sent).draws := by
  have hframe := s.speedSettling_frame old sent
  have hwindow : (s.speedSettling old sent).window = none := by simp [State.speedSettling]
  generalize s.speedSettling old sent = t at hframe hwindow ⊢
  cases t
  simp only [State.withWindow, State.withAcq, State.withReaction, State.withCoupling, State.withHistory, State.withDraws,
    State.mk.injEq]
  dsimp only at hframe hwindow
  simp [hframe, hwindow]

/-- What the stage reports (R9, R14, R16, R90). -/
theorem State.speedSettling_reportsTo :
    s.reportsTo (s.speedSettling old sent) fun k r =>
      k = .speedImplausible ∧ (s.settled old sent r).implausible = true := by
  obtain ⟨ps, n, hperm, heq⟩ := s.speedSettling_eq old sent
  have hstale : ∀ c, (s.speedSettling old sent).cause .feedbackStale c =
      staleCause s.active c (s.settled old sent c).record := fun c => by
    simp [State.cause, State.speedSettling_acq, Acquisition.withCauses]
  have hfault : ∀ c, (s.speedSettling old sent).cause .driveFault c =
      faultCause s.active c (s.settled old sent c).record := fun c => by
    simp [State.cause, State.speedSettling_acq, Acquisition.withCauses]
  refine State.reportsTo_of_fold (u := s.settledState old sent) (ps := ps)
    ((hperm.map _).nodup_iff.mpr (settling_keys_nodup s old sent)) ⟨rfl, rfl, rfl, rfl, rfl⟩
    (by rw [heq]; exact ⟨rfl, rfl, rfl⟩) (fun k c => ?_) (fun k c => ?_)
  · rw [hperm.mem_iff, mem_settling_occurrence]
    by_cases hks : k = .feedbackStale
    · subst hks; rw [hstale]; simp [State.cause]
    by_cases hkf : k = .driveFault
    · subst hkf; rw [hfault]; simp [State.cause]
    · rw [State.speedSettling_cause s old sent hks hkf]
      simp [hks, hkf]
  · rw [hperm.mem_iff, mem_settling_ended]
    by_cases hks : k = .feedbackStale
    · subst hks; rw [hstale]; simp [State.cause]
    by_cases hkf : k = .driveFault
    · subst hkf; rw [hfault]; simp [State.cause]
    · rw [State.speedSettling_cause s old sent hks hkf]
      simp [hks, hkf]

end

theorem not_reseedForced_iff (old : Option Image) (img : Image) (r : Chan) :
    ¬ reseedForced old img r ↔ ∀ o, old = some o → img.pitch r = o.pitch r ∧ img.roller r 4 = o.roller r 4 ∧
      img.slotOf r = o.slotOf r ∧ img.periodCode = o.periodCode := by
  simp only [reseedForced, not_exists, not_and, not_or, ne_eq, not_not]

/-- A stale cycle as the statement has it: held speed and seed kept, the count and the span stepped (R12). -/
theorem Acquisition.staleCycle_fields (a : Acquisition) (limit : Nat) :
    (a.staleCycle limit).staleCount = min 255 (a.staleCount + 1) ∧
    (a.seeded = true → (a.staleCycle limit).k = min (a.k + 1) (limit + 1)) ∧
    (a.seeded = false → (a.staleCycle limit).k = 1) :=
  ⟨satInc_eq_min _ _, fun h => if_pos h, fun h => if_neg (Bool.eq_false_iff.mp h)⟩

/-- Settles O35: each roller falls under one case of R10, and the stage's reports are those of its causes and of its
implausible samples. -/
theorem settlingFollowsCases : Obligations.SettlingFollowsCases := by
  refine ⟨fun s old sent r => ?_, fun s old sent => ⟨?_, s.speedSettling_only old sent⟩⟩
  · intro img a t b forced limit k stale
    have hb : b = (a.settle img old sent r).record.withCauses img r := s.speedSettling_acq old sent r
    obtain ⟨hpending, hstatus, hlate⟩ := a.settle_frame img old sent r
    have hstale : (a.settle img old sent r).record = { a with k := k }.staleCycle limit → stale := fun h => by
      obtain ⟨hcount, hseeded, hunseeded⟩ := Acquisition.staleCycle_fields { a with k := k } limit
      simp only [stale, hb, h]
      exact ⟨rfl, rfl, rfl, rfl, hcount, hseeded, hunseeded⟩
    refine ⟨by simp [t, State.speedSettling], ?_, ?_, ?_, ?_, ?_, fun hunseated => ?_,
      fun hpitch hforced => ⟨fun hnone hsent => ?_, fun hnone hsent => ?_, fun c hsome => ⟨fun hseed => ?_, fun hseeded hk => ?_⟩⟩⟩
    · rw [hb]; exact hpending
    · rw [hb]; exact hstatus
    · rw [hb]; exact hlate
    · rw [hb]; rfl
    · rw [hb]; rfl
    · rw [hb, Acquisition.settle_of_unseated hunseated]
      exact ⟨rfl, rfl, rfl, rfl, rfl⟩
    · subst hsent
      rw [hb, Acquisition.settle_of_unsent (n := k) rfl hpitch hforced hnone]
      exact ⟨rfl, rfl, rfl, rfl, rfl, rfl⟩
    · subst hsent
      exact hstale (congrArg Settled.record (Acquisition.settle_of_missing rfl hpitch hforced hnone))
    · rw [hb, Acquisition.settle_of_seed (n := k) rfl hpitch hforced hsome hseed]
      exact ⟨rfl, rfl, rfl, rfl, rfl, rfl⟩
    · intro v
      have hsettle := Acquisition.settle_of_seeded (sent := sent) (n := k) rfl hpitch hforced hsome hseeded hk
      refine ⟨fun hv => ?_, fun hv => ?_⟩
      · have haccept := hsettle.trans (if_neg (not_lt.mpr hv))
        rw [hb, haccept]
        exact ⟨rfl, rfl, rfl, rfl, rfl, rfl⟩
      · have hrefuse := hsettle.trans (if_pos hv)
        exact ⟨hstale (congrArg Settled.record hrefuse),
          s.speedSettling_implausible_entry old sent (congrArg Settled.implausible hrefuse)⟩
  · refine Eq.mp (congrArg (s.reportsTo _) (funext fun k => funext fun r => propext (and_congr_right fun _ => ?_)))
      (s.speedSettling_reportsTo old sent)
    rw [State.settled, Acquisition.settle_implausible_iff, not_reseedForced_iff]
    simp only [Acquisition.settleSample_implausible_iff, Acquisition.capAfterCommit_eq]
    refine and_congr_right fun _ => and_congr_right fun _ => ⟨?_, ?_⟩
    · rintro ⟨c, hsome, hseeded, hk, hv⟩
      exact ⟨hseeded, hk, c, hsome, hv⟩
    · rintro ⟨hseeded, hk, c, hsome, hv⟩
      exact ⟨c, hsome, hseeded, hk, hv⟩

end Sys2Proof.Machine
end

section
/-! The reference stage: ratio curves, the reference a group forms, its targets and errors, and its loss (R20 to R36). -/

namespace Sys2Proof.Machine

/-! ### Ratio curves (R28, R29) -/

/-- An exact quotient is not rounded. -/
theorem roundDiv_mul_self (a : Int) {d : Int} (hd : 0 < d) : roundDiv (a * d) d = a := by
  obtain ⟨hnear, htie⟩ := roundsToNearest (a * d) hd
  have hfactor : a * d - d * roundDiv (a * d) d = d * (a - roundDiv (a * d) d) := by ring
  rw [hfactor, abs_mul, abs_of_pos hd] at hnear
  have hzero : |a - roundDiv (a * d) d| < 1 := by nlinarith
  have := Int.abs_lt_one_iff.mp hzero
  omega

/-- At its first breakpoint a segment has that breakpoint's ratio. -/
theorem segmentValue_start {x0 x1 : Int} (h : x0 < x1) (r0 r1 : Int) : segmentValue x0 x0 r0 x1 r1 = r0 := by
  rw [segmentValue, sub_self, mul_zero, add_zero, roundDiv_mul_self _ (sub_pos.mpr h)]

section
variable {img : Image} {c : Nat} {x : Int}

/-- The breakpoint speeds of a curve rise over its first `m` breakpoints, as R27 has it. -/
def Image.curveRises (img : Image) (c m : Nat) : Prop :=
  ∀ j, j + 1 < m → img.curveSpeed c j < img.curveSpeed c (j + 1)

theorem Image.curveRises.le {m i j : Nat} (h : img.curveRises c m) (hij : i ≤ j) (hj : j < m) :
    img.curveSpeed c i ≤ img.curveSpeed c j := by
  induction j, hij using Nat.le_induction with
  | base => exact le_rfl
  | succ j hij ih => exact (ih (by omega)).trans (h j hj).le

/-- The segments that end at or below the speed are passed over. -/
theorem curveFrom_skip (n : Nat) {k : Nat} (h : ∀ i, i < k → img.curveSpeed c (i + 1) ≤ x) :
    curveFrom img c x (n + k) 0 = curveFrom img c x n k := by
  induction k generalizing n with
  | zero => rfl
  | succ k ih =>
    rw [show n + (k + 1) = n + 1 + k by omega, ih (n + 1) fun i hi => h i (by omega), curveFrom,
      if_neg (not_lt.mpr (h k (by omega)))]

/-- Beyond its first breakpoint a curve is read from the last breakpoint at or below the speed on. -/
theorem curveValue_eq_curveFrom {m j : Nat} (hm : img.curveCount c = m) (hrise : img.curveRises c m) (hj : j < m)
    (hfirst : img.curveSpeed c 0 < x) (hx : img.curveSpeed c j ≤ x) :
    curveValue img c x = curveFrom img c x (m - 1 - j) j := by
  have hskip := curveFrom_skip (img := img) (c := c) (x := x) (m - 1 - j) (k := j) fun i hi =>
    (hrise.le (by omega) hj).trans hx
  rw [curveValue, if_neg (not_le.mpr hfirst), hm, ← hskip]
  congr 1
  omega

/-- At and below its first breakpoint a curve holds its first ratio (R28). -/
theorem curveValue_of_le_first (h : x ≤ img.curveSpeed c 0) : curveValue img c x = img.curveRatio c 0 :=
  if_pos h

/-- At and beyond its last breakpoint a curve holds its last ratio (R28). -/
theorem curveValue_of_last_le {m : Nat} (hm : img.curveCount c = m) (h2 : 2 ≤ m) (hrise : img.curveRises c m)
    (h : img.curveSpeed c (m - 1) ≤ x) : curveValue img c x = img.curveRatio c (m - 1) := by
  have hfirst : img.curveSpeed c 0 < x :=
    (hrise 0 (by omega)).trans_le ((hrise.le (by omega) (by omega)).trans h)
  rw [curveValue_eq_curveFrom hm hrise (by omega) hfirst h, Nat.sub_self, curveFrom]

/-- Between two breakpoints a curve has the value of their segment (R29). -/
theorem curveValue_of_between {m j : Nat} (hm : img.curveCount c = m) (hrise : img.curveRises c m) (hj : j + 1 < m)
    (hfirst : img.curveSpeed c 0 < x) (hlow : img.curveSpeed c j ≤ x) (hhigh : x < img.curveSpeed c (j + 1)) :
    curveValue img c x =
      segmentValue x (img.curveSpeed c j) (img.curveRatio c j) (img.curveSpeed c (j + 1)) (img.curveRatio c (j + 1)) := by
  rw [curveValue_eq_curveFrom hm hrise (by omega) hfirst hlow, show m - 1 - j = m - 1 - j - 1 + 1 by omega, curveFrom,
    if_pos hhigh]

/-- At a breakpoint a curve has its ratio exactly: the first and the last by R28, the others as starts of segments. -/
theorem curveValue_at_breakpoint {m j : Nat} (hm : img.curveCount c = m) (h2 : 2 ≤ m) (hrise : img.curveRises c m)
    (hj : j < m) : curveValue img c (img.curveSpeed c j) = img.curveRatio c j := by
  rcases Nat.eq_zero_or_pos j with rfl | hpos
  · exact curveValue_of_le_first le_rfl
  rcases Nat.lt_or_ge (j + 1) m with hnext | hlast
  · have hfirst : img.curveSpeed c 0 < img.curveSpeed c j :=
      (hrise 0 (by omega)).trans_le (hrise.le hpos hj)
    rw [curveValue_of_between hm hrise hnext hfirst le_rfl (hrise j hnext), segmentValue_start (hrise j hnext)]
  · obtain rfl : j = m - 1 := by omega
    exact curveValue_of_last_le hm h2 hrise le_rfl

end

/-- Settles O36: the segments below the speed are passed over, so its own segment is the one read. -/
theorem curveEvaluation : Obligations.CurveEvaluation := fun img c m _ hm h2 (hrise : img.curveRises c m) =>
  ⟨curveValue_of_le_first, curveValue_of_last_le hm h2 hrise, fun _ => curveValue_at_breakpoint hm h2 hrise,
    fun _ hj => curveValue_of_between hm hrise hj⟩

/-! ### What the stage leaves in the reference records (R21 to R34) -/

section
variable (s : State)

@[simp] theorem State.referenceStage_groupRef (g : Chan) : s.referenceStage.groupRef.get g = s.nextGroupRef g := by
  simp [State.referenceStage]

@[simp] theorem State.referenceStage_rollerRef (r : Chan) : s.referenceStage.rollerRef.get r = s.nextRollerRef r := by
  simp [State.referenceStage]

/-- The members of a group that its reference includes (R22), as the statement says it. -/
theorem State.includedMembers_eq (g : Chan) :
    includedMembers s.active s.includesRoller g = (s.active.members g).filter fun r =>
      s.active.isCouplingGroup g && decide (0 < s.active.pitch r) && !(s.rollerRef.get r).excluded :=
  List.filter_congr fun r hr => by
    simp [State.includesRoller, includes, Image.inCouplingGroup, Image.mem_members.mp hr, Image.configured]

/-- Two included members make a coupling group, so the counts alone say whether a reference forms (R24). -/
theorem State.formsReference_iff (g : Chan) :
    s.formsReference g = true ↔ 2 ≤ (includedMembers s.active s.includesRoller g).length ∧
      1 ≤ (contributingMembers s.active s.includesRoller g).length := by
  have hgroup : 2 ≤ (includedMembers s.active s.includesRoller g).length → s.active.isCouplingGroup g = true := fun h =>
    decide_eq_true (h.trans (List.length_filter_le _ _))
  simp only [State.formsReference, canForm, Bool.and_eq_true, decide_eq_true_eq]
  exact ⟨fun ⟨⟨_, h2⟩, h1⟩ => ⟨h2, h1⟩, fun ⟨h2, h1⟩ => ⟨⟨hgroup h2, h2⟩, h1⟩⟩

variable {s} {g r : Chan}

theorem State.mem_includedMembers : r ∈ includedMembers s.active s.includesRoller g ↔
    r ∈ s.active.members g ∧ s.includesRoller r = true := List.mem_filter

/-- The mark stands and the included flag is R22's (R21). -/
theorem State.nextRollerRef_flags :
    (s.nextRollerRef r).included = s.includesRoller r ∧ (s.nextRollerRef r).excluded = (s.rollerRef.get r).excluded := by
  unfold State.nextRollerRef
  split
  · exact ⟨rfl, rfl⟩
  · split
    case isTrue h => exact ⟨(Bool.and_eq_true_iff.mp h).1.symm, rfl⟩
    case isFalse => exact ⟨rfl, rfl⟩

/-- An included member of a group that forms its reference (R24 step 3). -/
theorem State.nextRollerRef_of_reference (hforms : s.formsReference g = true)
    (hr : r ∈ includedMembers s.active s.includesRoller g) :
    s.nextRollerRef r = withReference s.active s.speed (s.indexOf g) (s.referenceOf g) r (s.rollerRef.get r).excluded := by
  obtain ⟨hmember, hincluded⟩ := State.mem_includedMembers.mp hr
  simp [State.nextRollerRef, Image.mem_members.mp hmember, hincluded, hforms]

/-- A member that is not included, or whose group forms no reference (R24, R34). -/
theorem State.nextRollerRef_of_none (hmember : r ∈ s.active.members g)
    (h : s.formsReference g = false ∨ r ∉ includedMembers s.active s.includesRoller g) :
    s.nextRollerRef r = withoutReference (s.includesRoller r) (s.rollerRef.get r).excluded := by
  have hnot : (s.includesRoller r && s.formsReference g) = false := by
    rcases h with h | h
    · rw [h, Bool.and_false]
    · rw [Bool.eq_false_iff.mpr fun hincluded => h (State.mem_includedMembers.mpr ⟨hmember, hincluded⟩), Bool.false_and]
  simp [State.nextRollerRef, Image.mem_members.mp hmember, hnot]

/-- The reference as a mean over the ratios that stand in the records after the stage (R30, R31). -/
theorem State.referenceOf_eq (hforms : s.formsReference g = true) :
    s.referenceOf g = weightedMean s.active (contributingMembers s.active s.includesRoller g) fun r =>
      normalised (s.speed r) (s.nextRollerRef r).ratio := by
  have hterm : ∀ r ∈ contributingMembers s.active s.includesRoller g,
      s.active.weight r * normalised (s.speed r) (ratioAt s.active r (s.indexOf g)) =
        s.active.weight r * normalised (s.speed r) (s.nextRollerRef r).ratio := fun r hr => by
    rw [State.nextRollerRef_of_reference hforms (List.mem_filter.mp hr).1]
    rfl
  unfold State.referenceOf groupReference weightedMean
  rw [List.map_congr_left hterm]

end

/-- Settles O37: the records the stage leaves in the two cases, a reference formed and none. -/
theorem referenceFormedFromContributors : Obligations.ReferenceFormedFromContributors := by
  intro s g t included contributing v R
  have hincluded : includedMembers s.active s.includesRoller g = included := s.includedMembers_eq g
  have hcontributing : contributingMembers s.active s.includesRoller g = contributing :=
    congrArg (List.filter fun r => decide (0 < s.active.weight r)) hincluded
  have hgroup : t.groupRef.get g = s.nextGroupRef g := s.referenceStage_groupRef g
  have hroller : ∀ r, t.rollerRef.get r = s.nextRollerRef r := s.referenceStage_rollerRef
  have hforms := s.formsReference_iff g
  rw [hincluded, hcontributing] at hforms
  have hwithout : ∀ r ∈ s.active.members g, s.formsReference g = false ∨ r ∉ included →
      R r = 0 ∧ (t.rollerRef.get r).u = 0 ∧ (t.rollerRef.get r).t = 0 ∧ (t.rollerRef.get r).e = 0 := fun r hr h => by
    simp only [R, hroller, State.nextRollerRef_of_none hr (hincluded ▸ h)]
    exact ⟨rfl, rfl, rfl, rfl⟩
  refine ⟨?_, ?_, fun r hr => ?_, fun h2 h1 => ?_, fun hno => ?_⟩
  · rw [hgroup, ← hincluded]; rfl
  · rw [hgroup, ← hcontributing]; rfl
  · obtain ⟨hflag, hmark⟩ := State.nextRollerRef_flags (s := s) (r := r)
    rw [hroller, ← hincluded]
    refine ⟨hflag.trans (Bool.eq_iff_iff.mpr ?_), hmark⟩
    simp [State.mem_includedMembers, hr]
  · have hf : s.formsReference g = true := hforms.mpr ⟨h2, h1⟩
    have hx : (t.groupRef.get g).x = s.indexOf g := by rw [hgroup]; exact if_pos hf
    have hu : (t.groupRef.get g).uRef = s.referenceOf g := by rw [hgroup]; exact if_pos hf
    refine ⟨by rw [hgroup]; exact hf, ?_, ?_, fun r hr => ?_, fun r hr hnot => hwithout r hr (.inr hnot)⟩
    · rw [hx, ← hcontributing]; rfl
    · rw [hu, State.referenceOf_eq hf, hcontributing]
      simp only [R, hroller]
      rfl
    · simp only [R, hx, hu, hroller, State.nextRollerRef_of_reference hf (hincluded ▸ hr)]
      exact ⟨rfl, rfl, rfl, rfl⟩
  · have hf : s.formsReference g = false := Bool.eq_false_iff.mpr fun h => hno (hforms.mp h)
    refine ⟨by rw [hgroup]; exact hf, ?_, ?_, fun r hr => hwithout r hr (.inl hf)⟩ <;>
      · rw [hgroup]; simp [State.nextGroupRef, hf]

/-! ### The configured levels of a valid image (R91, R147) -/

theorem Image.valid_iff (img : Image) : img.valid = true ↔ ∀ i, i < 254 → fieldFails img i = false := by
  simp [Image.valid, validate]

theorem Level.code_ofCode : ∀ n : Nat, (Level.ofCode n).code = min n 4
  | 0 | 1 | 2 | 3 => rfl
  | n + 4 => (Nat.min_eq_right (Nat.le_add_left 4 n)).symm

/-- In a valid image no kind is configured below the Min column of R90. -/
theorem State.le_configuredLevel {s : State} (h : s.active.valid = true) (k : FaultKind) :
    (reactionBounds k.code).2.1 ≤ (s.configuredLevel k).code := by
  have hcode : 1 ≤ k.code ∧ k.code ≤ 12 ∧ (reactionBounds k.code).2.1 ≤ 4 := by cases k <;> decide
  have hfield := (Image.valid_iff s.active).mp h (241 + k.code) (by omega)
  rw [fieldFails, if_neg (by omega), if_neg (by omega), if_neg (by omega), if_neg (by omega), Nat.add_sub_cancel_left,
    reactionFails, within, Bool.not_eq_false', Bool.and_eq_true, decide_eq_true_eq] at hfield
  rw [State.configuredLevel, Level.code_ofCode]
  exact le_min hfield.1 hcode.2.2

/-! ### What a stage's reports leave of one occurrence (R94, R97) -/

section
variable {s t : State} {event : FaultKind → Chan → Prop} {k : FaultKind} {c : Chan}

/-- A cause that comes has an entry, renewed or new, with this computation's count. -/
theorem State.reportsTo.entry (h : s.reportsTo t event) (hcomes : s.cause k c = false ∧ t.cause k c = true) :
    ∃ f ∈ t.reaction.faults, f.key = (k, c) ∧ f.causePresent = k.lasting ∧ f.last = s.timer.cycleCount := by
  obtain ⟨hstands, -, hadded, -⟩ := h
  by_cases hkey : ∃ f ∈ s.reaction.faults, f.key = (k, c)
  · obtain ⟨f, hf, hfk⟩ := hkey
    obtain ⟨rfl, rfl⟩ := Prod.mk.inj hfk
    obtain ⟨i, hi⟩ := List.getElem?_of_mem hf
    exact ⟨_, List.mem_of_getElem? ((hstands i f hi).1 (.inl hcomes)), rfl, rfl, rfl⟩
  · have hnone : ∀ f ∈ s.reaction.faults, f.key ≠ (k, c) := fun f hf hfk => hkey ⟨f, hf, hfk⟩
    exact ⟨_, List.mem_of_mem_drop ((hadded _).mpr ⟨k, c, .inl hcomes, hnone, rfl⟩), rfl, rfl, rfl⟩

/-- A cause that comes raises every group it applies to, to its configured level at least. -/
theorem State.reportsTo.le_level (h : s.reportsTo t event) (hcomes : s.cause k c = false ∧ t.cause k c = true) {g : Chan}
    (happlies : appliesTo s.active k c g = true) : (s.configuredLevel k).code ≤ (t.reaction.levels.get g).code := by
  obtain ⟨-, -, -, hlevels, -⟩ := h
  exact (hlevels g).2.1 k c (.inl hcomes) happlies

theorem State.reportsTo.coupling (h : s.reportsTo t event) (g : Chan) :
    afterLevelChange (s.coupling.get g) (t.coupling.get g) (s.reaction.levels.get g) (t.reaction.levels.get g) := by
  obtain ⟨-, -, -, -, hcoupling, -⟩ := h
  exact hcoupling g

end

/-! ### The loss of a reference (R35, R36) -/

section
variable (s : State)

/-- The stage's occurrences: the groups that lose their reference. -/
theorem mem_referenceReports_occurrence (k : FaultKind) (c : Chan) :
    .occurrence k c ∈ s.referenceReports ↔
      k = .groupLost ∧ (s.groupRef.get c).groupLost = false ∧ s.lostCause c = true := by
  simp only [State.referenceReports, List.mem_flatMap, mem_channels, true_and, mem_causeChange_occurrence]
  exact ⟨fun ⟨_, ⟨hk, rfl⟩, h⟩ => ⟨hk, h⟩, fun ⟨hk, h⟩ => ⟨c, ⟨hk, rfl⟩, h⟩⟩

/-- The stage's ends: the groups whose loss is over. -/
theorem mem_referenceReports_ended (k : FaultKind) (c : Chan) :
    .ended k c ∈ s.referenceReports ↔
      k = .groupLost ∧ (s.groupRef.get c).groupLost = true ∧ s.lostCause c = false := by
  simp only [State.referenceReports, List.mem_flatMap, mem_channels, true_and, mem_causeChange_ended]
  exact ⟨fun ⟨_, ⟨hk, rfl⟩, h⟩ => ⟨hk, h⟩, fun ⟨hk, h⟩ => ⟨c, ⟨hk, rfl⟩, h⟩⟩

/-- The stage reports each group once at most (R90). -/
theorem referenceReports_keys_nodup : (s.referenceReports.map Report.key).Nodup := by
  have hsub : (s.referenceReports.map Report.key).Sublist (channels.flatMap fun g => [(FaultKind.groupLost, g)]) := by
    rw [State.referenceReports, List.map_flatMap]
    exact List.Sublist.flatMap_right _ fun g _ => causeChange_keys_sublist _ _ _ _
  exact hsub.nodup (by decide)

theorem State.referenceStage_cause_groupLost (g : Chan) : s.referenceStage.cause .groupLost g = s.lostCause g :=
  congrArg GroupReference.groupLost (s.referenceStage_groupRef g)

/-- The causes of every other kind stand as they stood. -/
theorem State.referenceStage_cause {k : FaultKind} (h : k ≠ .groupLost) (c : Chan) :
    s.referenceStage.cause k c = s.cause k c := by
  cases k with
  | groupLost => exact absurd rfl h
  | estop => simp [State.cause, State.referenceStage]
  | _ => simp [State.cause]

/-- The state in which the stage takes its reports: every reference record formed. -/
def State.referencedState : State :=
  (s.withGroupRef (Quad.ofFn s.nextGroupRef)).withRollerRef (Quad.ofFn s.nextRollerRef)

/-- The stage forms the records and takes its reports, in some order (R96). -/
theorem State.referenceStage_eq :
    ∃ (ps : List Report) (n : Nat), ps.Perm s.referenceReports ∧
      s.referenceStage = (ps.foldl State.takeReport s.referencedState).withDraws n :=
  s.referencedState.takeReports_eq s.referenceReports

/-- The stage reports the changes of the GROUP_LOST causes and nothing else (R35, R90). -/
theorem State.referenceStage_reportsCauses : s.reportsCauses s.referenceStage := by
  obtain ⟨ps, n, hperm, heq⟩ := s.referenceStage_eq
  refine State.reportsTo_of_fold (u := s.referencedState) (ps := ps)
    ((hperm.map _).nodup_iff.mpr (referenceReports_keys_nodup s)) ⟨rfl, rfl, rfl, rfl, rfl⟩
    (by rw [heq]; exact ⟨rfl, rfl, rfl⟩) (fun k c => ?_) (fun k c => ?_)
  · rw [hperm.mem_iff, mem_referenceReports_occurrence, or_false]
    by_cases hk : k = .groupLost
    · subst hk; rw [State.referenceStage_cause_groupLost]; simp [State.cause]
    · rw [State.referenceStage_cause s hk]; simp [hk]
  · rw [hperm.mem_iff, mem_referenceReports_ended]
    by_cases hk : k = .groupLost
    · subst hk; rw [State.referenceStage_cause_groupLost]; simp [State.cause]
    · rw [State.referenceStage_cause s hk]; simp [hk]

/-- Beside the reference records and the draws the stage changes what reports change and nothing else. -/
theorem State.referenceStage_only :
    s.referenceStage = (((((s.withGroupRef s.referenceStage.groupRef).withRollerRef
      s.referenceStage.rollerRef).withReaction s.referenceStage.reaction).withCoupling
      s.referenceStage.coupling).withHistory s.referenceStage.history).withDraws s.referenceStage.draws := by
  have hframe := s.referenceStage_frame
  generalize s.referenceStage = t at hframe ⊢
  cases t
  simp only [State.withGroupRef, State.withRollerRef, State.withReaction, State.withCoupling, State.withHistory,
    State.withDraws, State.mk.injEq]
  dsimp only at hframe
  simp [hframe]

end

/-- Settles O38: the loss is an occurrence of GROUP_LOST, whose configured level is HOLD at least, and R57 releases the
group at the rise. -/
theorem lostReferenceReleasesGroup : Obligations.LostReferenceReleasesGroup := by
  refine ⟨fun s g hvalid => ⟨fun hcouples hforms hbefore hlow => ?_, fun hrest => ?_⟩,
    fun s => ⟨s.referenceStage_reportsCauses, s.referenceStage_only⟩⟩
  · have hlost : s.lostCause g = true := by simp [State.lostCause, hcouples, hforms]
    have hcomes : s.cause .groupLost g = false ∧ s.referenceStage.cause .groupLost g = true :=
      ⟨hbefore, (s.referenceStage_cause_groupLost g).trans hlost⟩
    have hreports : s.reportsTo s.referenceStage _ := s.referenceStage_reportsCauses
    have hlevel : 3 ≤ (s.referenceStage.reaction.levels.get g).code :=
      (s.le_configuredLevel hvalid .groupLost).trans (hreports.le_level hcomes (beq_self_eq_true g))
    obtain ⟨hrise, -⟩ := hreports.coupling g
    obtain ⟨hrelease, -, -⟩ := hrise ⟨by omega, hlevel⟩
    refine ⟨hcomes.2, hrelease hcouples, hlevel, hreports.entry hcomes, fun r hr => ?_⟩
    rw [State.referenceStage_rollerRef, State.nextRollerRef_of_none hr (.inl hforms)]
    rfl
  · rw [State.referenceStage_groupRef]
    simp [State.nextGroupRef, State.lostCause, hrest]

end Sys2Proof.Machine
end

section
/-! The Status block: where each field stands and by which codes (R38, R39, R105, R118, R128). -/

namespace Sys2Proof.Machine

/-! ### Fields read at their places (R117, R118) -/

/-- A 16-bit field stands where its two bytes stand. -/
theorem halfAt_of_bytes {bytes : List Byte} {i : Nat} {h : Half} (hhigh : byteAt bytes i = (h >>> 8).setWidth 8)
    (hlow : byteAt bytes (i + 1) = h.setWidth 8) : halfAt bytes i = h := by
  rw [halfAt, hhigh, hlow]
  exact halfAt_bytesOfHalf [] [] h

section
variable (s : State)

theorem statusBlock_groupState (g : Chan) :
    byteAt (statusBlock s) g.val = BitVec.ofNat 8 (s.coupling.get g).state.code := by
  fin_cases g <;> rfl

theorem statusBlock_level (g : Chan) :
    byteAt (statusBlock s) (4 + g.val) = BitVec.ofNat 8 (s.reaction.levels.get g).code := by
  fin_cases g <;> rfl

theorem statusBlock_partFlags : halfAt (statusBlock s) 8 = BitVec.ofNat 16 (partFlags s) :=
  halfAt_of_bytes rfl rfl

theorem statusBlock_rollerFlags (r : Chan) :
    byteAt (statusBlock s) (10 + r.val) = BitVec.ofNat 8 (rollerFlags s r) := by
  fin_cases r <;> rfl

theorem statusBlock_torque (r : Chan) :
    halfAt (statusBlock s) (14 + 2 * r.val) = BitVec.ofInt 16 (s.torque.get r).qOut := by
  fin_cases r <;> exact halfAt_of_bytes rfl rfl

theorem statusBlock_error (r : Chan) :
    halfAt (statusBlock s) (22 + 2 * r.val) = BitVec.ofInt 16 (shownError (s.rollerRef.get r).e) := by
  fin_cases r <;> exact halfAt_of_bytes rfl rfl

theorem statusBlock_cycleCount : halfAt (statusBlock s) 30 = s.timer.cycleCount.setWidth 16 :=
  halfAt_of_bytes rfl rfl

theorem statusBlock_lastRefusedTag : byteAt (statusBlock s) 32 = s.service.lastRefusedTag := rfl

/-! ### Flags as bits of a number (R118, R128) -/

theorem bitValue_eq (b : Bool) (i : Nat) : bitValue b i = 2 ^ i * b.toNat := by
  cases b <;> simp [bitValue]

theorem ofBits_vecCons {n : Nat} (b : Bool) (f : Fin n → Bool) :
    Nat.ofBits (Matrix.vecCons b f) = 2 * Nat.ofBits f + b.toNat :=
  Nat.ofBits_succ _

/-- The part flags in the order of their bits. -/
def State.partFlag : Fin 11 → Bool :=
  ![s.reaction.restart, s.timer.link == .lost, s.faultLine, s.commitInFlight, s.images.transfer.isOpen,
    s.history.state == .postTrigger, s.history.state == .frozen, s.service.overrun, s.storeWriting, s.images.setupLine,
    s.reaction.estopCause]

/-- The flags of a roller in the order of their bits. -/
def State.rollerFlag (r : Chan) : Fin 4 → Bool :=
  ![(s.rollerRef.get r).included, (s.rollerRef.get r).excluded, (s.acq.get r).staleFlag, (s.torque.get r).clamped]

/-- The history state's code fills bits 5 and 6, and each of the two shows one state. -/
theorem partFlags_eq : partFlags s = Nat.ofBits s.partFlag := by
  have hhistory : s.history.state.code * 32 =
      bitValue (s.history.state == .postTrigger) 5 + bitValue (s.history.state == .frozen) 6 := by
    cases s.history.state <;> rfl
  simp only [partFlags, hhistory, bitValue_eq, State.partFlag, ofBits_vecCons, Nat.ofBits_zero]
  ring

/-- The phase's code stands above the four flags. -/
theorem rollerFlags_eq (r : Chan) :
    rollerFlags s r = 2 ^ 4 * (s.composer.get r).phase.code + Nat.ofBits (s.rollerFlag r) := by
  simp only [rollerFlags, bitValue_eq, State.rollerFlag, ofBits_vecCons, Nat.ofBits_zero]
  ring

theorem statusBlock_partFlag (i : Fin 11) : (halfAt (statusBlock s) 8).getLsbD i.val = s.partFlag i := by
  rw [statusBlock_partFlags, BitVec.getLsbD_ofNat, partFlags_eq, Nat.testBit_ofBits_lt _ _ i.isLt,
    decide_eq_true (show i.val < 16 by omega), Bool.true_and]

theorem statusBlock_partFlag_past {i : Nat} (hi : 11 ≤ i) : (halfAt (statusBlock s) 8).getLsbD i = false := by
  rw [statusBlock_partFlags, BitVec.getLsbD_ofNat, partFlags_eq, Nat.testBit_ofBits_ge _ _ hi, Bool.and_false]

theorem statusBlock_rollerFlag (r : Chan) (i : Fin 4) :
    (byteAt (statusBlock s) (10 + r.val)).getLsbD i.val = s.rollerFlag r i := by
  rw [statusBlock_rollerFlags, BitVec.getLsbD_ofNat, rollerFlags_eq,
    Nat.testBit_two_pow_mul_add _ (Nat.ofBits_lt_two_pow _), if_pos i.isLt, Nat.testBit_ofBits_lt _ _ i.isLt,
    decide_eq_true (show i.val < 8 by omega), Bool.true_and]

theorem statusBlock_phase (r : Chan) :
    (byteAt (statusBlock s) (10 + r.val) >>> 4).toNat = (s.composer.get r).phase.code := by
  have hflags : Nat.ofBits (s.rollerFlag r) < 2 ^ 4 := Nat.ofBits_lt_two_pow _
  have hphase : (s.composer.get r).phase.code ≤ 3 := by cases (s.composer.get r).phase <;> decide
  rw [statusBlock_rollerFlags, BitVec.toNat_ushiftRight, BitVec.toNat_ofNat, rollerFlags_eq, Nat.shiftRight_eq_div_pow,
    Nat.mod_eq_of_lt (by omega)]
  omega

/-! ### The FAULT line and the shown error (R39, R105) -/

theorem State.faultLine_iff : s.faultLine = true ↔ s.reaction.restart = true ∨ s.resetHeld = true ∨
    ∃ f ∈ s.reaction.faults, (s.images.active.field 8).getLsbD (f.kind.code - 1) = true := by
  simp only [State.faultLine, Bool.or_eq_true, List.any_eq_true, or_assoc]
  exact or_congr_right or_comm

theorem shownError_eq (e : Int) : shownError e = max (-32767) (min 32767 e) := by
  unfold shownError clamp
  split
  · omega
  · split <;> omega

end

/-- Settles O30: each field is read at its place, and the flags as the bits of the numbers they are summed to. -/
theorem statusBlockLayout : Obligations.StatusBlockLayout := by
  intro s
  refine ⟨statusBlock_length s, s.faultLine_iff, fun g => ⟨?_, ?_⟩, ?_, fun r => ?_,
    fun r => ⟨statusBlock_torque s r, ?_⟩, statusBlock_cycleCount s, statusBlock_lastRefusedTag s⟩
  · rw [statusBlock_groupState]
    cases (s.coupling.get g).state <;> rfl
  · rw [statusBlock_level]
    cases s.reaction.levels.get g <;> rfl
  · have hflag := statusBlock_partFlag s
    exact ⟨hflag 0, hflag 1, hflag 2, hflag 3, hflag 4, hflag 5, hflag 6, hflag 7, hflag 8, hflag 9, hflag 10,
      fun _ => statusBlock_partFlag_past s⟩
  · have hflag := statusBlock_rollerFlag s r
    refine ⟨hflag 0, hflag 1, hflag 2, hflag 3, (statusBlock_phase s r).trans ?_⟩
    cases (s.composer.get r).phase <;> rfl
  · rw [statusBlock_error, shownError_eq]

end Sys2Proof.Machine
end

section
/-! The elementary changes that commands are made of, and the properties that all of them keep. -/

namespace Sys2Proof.Machine

/-! ### Changes that leave the coupling as it is -/

/-- Two states that agree in all that the rules about coupling speak of: group states, levels and Restart flag, coupling
torques and accumulated errors, images, and the service request at the head with the response going up. -/
structure State.CouplesLike (s t : State) : Prop where
  coupling : t.coupling = s.coupling
  levels : t.reaction.levels = s.reaction.levels
  restart : t.reaction.restart = s.reaction.restart
  torque : ∀ r, (t.torque.get r).qOut = (s.torque.get r).qOut ∧ (t.torque.get r).a = (s.torque.get r).a
  images : t.images = s.images
  service : t.service = s.service
  sending : t.cellPort.sending = s.cellPort.sending

/-- A property that every elementary change of a command keeps. -/
structure KeptByChanges (P : State → Prop) : Prop where
  alike : ∀ {s t : State}, s.CouplesLike t → P s → P t
  occurrence : ∀ {s : State} (k : FaultKind) (c : Chan), P s → P (s.occurrence k c)
  setupLine : ∀ {s : State} (b : Bool), P s → P (s.withImages { s.images with setupLine := b })
  resetBlocks : ∀ s : State, P s.resetBlocks
  checkEnds : ∀ {s : State}, P s → P s.checkEnds
  writeEnds : ∀ {s : State}, P s → P s.writeEnds
  handOver : ∀ {s : State} (q : Request), P s → P (s.handOver q)
  sendPlain : ∀ {s : State} (b : List Byte), s.cellPort.sending = none → P s → P (s.sendUp b false)
  sendAnswer : ∀ {s : State} (b : List Byte), s.cellPort.sending = none → s.service.progress = some .performed → P s →
    P (s.sendUp b true).carried
  sentPlain : ∀ {s : State} {f : SentFeedback}, s.cellPort.sending = some f → f.carries = false → P s →
    P (s.withCellPort { s.cellPort with sending := none })
  sentAnswer : ∀ {s : State} {f : SentFeedback}, s.cellPort.sending = some f → f.carries = true → P s →
    P (s.withCellPort { s.cellPort with sending := none }).advanceQueue
  startCycle : ∀ {s : State} (start : CycleStart), P s → P (s.startCycle start)
  couplingStage : ∀ {s : State}, P s → P s.couplingStage

namespace KeptByChanges

variable {P : State → Prop} (kept : KeptByChanges P)
include kept

/-- The rules on what each operation leaves unchanged say that a change leaves the coupling as it is. -/
theorem keep {s t : State} (h : P s) (same : s.CouplesLike t := by constructor <;> simp) : P t := kept.alike same h

/-! ### Reports, lines and resets -/

theorem causeEnds {s : State} (k : FaultKind) (c : Chan) (h : P s) : P (s.causeEnds k c) :=
  kept.keep h

theorem takeReports {s : State} (ps : List Report) (h : P s) : P (s.takeReports ps) := by
  refine State.takeReports_keeps (fun s n h => kept.keep h) (fun s p _ h => ?_) h
  cases p with
  | occurrence k c => exact kept.occurrence k c h
  | ended k c => exact kept.causeEnds k c h

theorem tick {s : State} (n : Nat) (h : P s) : P (s.tick n) := kept.keep h

theorem assertEstop {s : State} (h : P s) : P s.assertEstop := by
  unfold State.assertEstop
  dsimp only
  split
  · exact kept.occurrence _ _ (kept.keep h)
  · exact kept.keep h

theorem releaseEstop {s : State} (h : P s) : P s.releaseEstop := by
  unfold State.releaseEstop
  dsimp only
  split
  · exact kept.causeEnds _ _ (kept.keep h)
  · exact kept.keep h

theorem changeSetup {s : State} (b : Bool) (h : P s) : P (s.changeSetup b) := by
  have hline : P (s.withSetupInput b) := kept.keep h
  unfold State.changeSetup
  dsimp only
  split
  · exact kept.setupLine b hline
  · exact hline

theorem endReset {s : State} (h : P s) : P s.endReset := by
  have hline := kept.setupLine s.setupInput h
  unfold State.endReset
  dsimp only
  split
  · exact kept.occurrence _ _ (kept.keep hline)
  · exact hline

theorem deadlineComes {s : State} (h : P s) : P s.deadlineComes := by
  have hexpires : ∀ d, P (s.deadlineExpires d) := fun d => by
    have hlost : P ((s.withClock (max s.clock d)).withTimer { s.timer with link := .lost, deadline := none }) :=
      kept.keep h
    exact kept.keep (kept.occurrence .linkLost 0 hlost) (by constructor <;> simp [State.deadlineExpires])
  unfold State.deadlineComes
  split
  · split
    · exact hexpires _
    · exact h
  · exact h

/-! ### A Demand's passage -/

theorem driveReady {s : State} (o : Outgoing) (m : Nat) (h : P s) : P (s.driveReady o m) :=
  kept.keep h

theorem demandPassage {s : State} (bytes : List Byte) (m : Nat) (h : P s) : P (s.demandPassage bytes m) := by
  have htold : P (s.validDemand m) := by
    unfold State.validDemand
    dsimp only
    split
    · exact kept.causeEnds _ _ (kept.keep h)
    · exact kept.keep h
  have htaken : P ((s.validDemand m).takeRequest bytes) := by
    unfold State.takeRequest
    split
    · exact kept.handOver _ htold
    · exact htold
  have hbad : P (s.badDemand bytes) := by
    have hcounted := kept.occurrence .demandCheck 0 (kept.keep (t := s.withCellPort { s.cellPort with
      demandErrors := satInc 65535 s.cellPort.demandErrors }) h)
    unfold State.badDemand
    dsimp only
    split
    · exact hcounted
    · exact kept.driveReady _ _ hcounted
  unfold State.demandPassage State.goodDemandPassage
  split
  · split
    · exact kept.keep htold
    · exact kept.keep htaken (by constructor <;> simp [State.accept])
  · exact hbad

theorem receiveDemand {s : State} (bytes : List Byte) (h : P s) : P (s.receiveDemand bytes) := by
  unfold State.receiveDemand
  split
  · exact kept.keep h
  · exact kept.demandPassage _ _ h

theorem finishDemand {s : State} (h : P s) : P s.finishDemand := by
  unfold State.finishDemand
  split
  · exact h
  · have hnext : P (s.withDrivePort { s.drivePort with sending := none }).sendNext :=
      kept.keep h
    unfold State.beginWaitingDemand
    split
    · exact hnext
    · split
      · exact hnext
      · exact kept.demandPassage _ _ (kept.keep hnext)

/-! ### A Feedback's passage -/

theorem feedbackPassage {s : State} (bytes : List Byte) (hfree : s.cellPort.sending = none) (h : P s) :
    P (s.feedbackPassage bytes) := by
  have hexamined : P (s.examineSlots bytes) := kept.keep h
  have hbad : P (s.badFeedback bytes) := by
    have hcounted := kept.occurrence .feedbackCheck 0 (kept.keep (t := s.withDrivePort { s.drivePort with
      feedbackErrors := satInc 65535 s.drivePort.feedbackErrors }) h)
    unfold State.badFeedback
    dsimp only
    split
    · exact hcounted
    · exact kept.sendPlain _ (by simpa using hfree) hcounted
  unfold State.feedbackPassage State.insertAndSend
  split
  · split
    case isTrue hcarries =>
      have hready : (s.examineSlots bytes).service.progress = some .performed := by
        simp only [State.carriesResponse, Bool.and_eq_true, beq_iff_eq] at hcarries
        exact hcarries.1.2
      exact kept.sendAnswer _ (by simpa using hfree) hready hexamined
    case isFalse => exact kept.sendPlain _ (by simpa using hfree) hexamined
  · exact hbad

theorem receiveFeedback {s : State} (bytes : List Byte) (h : P s) : P (s.receiveFeedback bytes) := by
  unfold State.receiveFeedback
  split
  · exact kept.keep h
  · exact kept.feedbackPassage bytes ‹_› h

theorem beginWaitingFeedback {s : State} (hfree : s.cellPort.sending = none) (h : P s) : P s.beginWaitingFeedback := by
  unfold State.beginWaitingFeedback
  split
  · exact h
  · exact kept.feedbackPassage _ (by simpa using hfree) (kept.keep h)

theorem finishFeedback {s : State} (h : P s) : P s.finishFeedback := by
  unfold State.finishFeedback
  split
  · exact h
  case h_2 f hsending =>
    dsimp only
    split
    case isTrue hcarries =>
      split
      · exact kept.endReset (kept.resetBlocks _)
      · exact kept.beginWaitingFeedback (by simp) (kept.sentAnswer hsending hcarries h)
    case isFalse hcarries =>
      exact kept.beginWaitingFeedback rfl (kept.sentPlain hsending (Bool.eq_false_iff.mpr hcarries) h)

/-! ### Computations -/

theorem happens {s : State} (e : Event) (h : P s) : P (s.happens e) := by
  cases e with
  | estopAssert => exact kept.assertEstop h
  | estopRelease => exact kept.releaseEstop h
  | setupChange active => exact kept.changeSetup active h
  | demandReception bytes => exact kept.receiveDemand bytes h
  | demandSent => exact kept.finishDemand h
  | feedbackReception bytes => exact kept.receiveFeedback bytes h
  | feedbackSent => exact kept.finishFeedback h
  | deadlineExpiry => exact kept.deadlineComes h
  | commitCheckEnd => exact kept.checkEnds h
  | calibrationWriteEnd => exact kept.writeEnds h

theorem takeEvent {s : State} (e : MidEvent) (h : P s) : P (s.takeEvent e) := by
  unfold State.takeEvent
  split
  · exact kept.happens _ (kept.tick _ h)
  · exact h

/-- Each of the six stages but the coupling torque stage takes reports and changes nothing else of the coupling. -/
theorem stage {old : Option Image} {sent : Bool} {f : State → State} (hf : f ∈ cycleStages old sent) {s : State}
    (h : P s) : P (f s) := by
  simp only [cycleStages, List.mem_cons, List.not_mem_nil, or_false] at hf
  rcases hf with rfl | rfl | rfl | rfl | rfl | rfl
  · exact kept.takeReports _ (kept.takeReports _ (kept.keep h))
  · exact kept.takeReports _ (kept.keep h)
  · exact kept.couplingStage h
  · exact kept.takeReports _ (kept.keep h (by constructor <;> simp [State.clampedTorque]))
  · exact kept.takeReports _ (kept.keep h)
  · exact kept.keep h

theorem computeCycle {s : State} (start : CycleStart) (during : List MidEvent) (point : Nat) (h : P s) :
    P (s.computeCycle start during point) :=
  State.runFrom_keeps (fun _ hf _ hu => kept.stage hf hu) (fun e _ _ hu => kept.takeEvent e hu) point _
    (kept.startCycle start h)

theorem handDown {s : State} (origin : DemandOrigin) (bytes : List Byte) (latency : Nat) (h : P s) :
    P (s.handDown origin bytes latency) := by
  unfold State.handDown
  split
  · exact kept.driveReady _ _ (kept.keep h)
  · exact h

theorem runAccepted {s : State} (course : Course) (point : Nat) (h : P s) : P (s.runAccepted course point) := by
  unfold State.runAccepted
  split
  case h_1 bytes _ _ =>
    have hcomputed := kept.computeCycle (.cell (demandSlots bytes)) course.during point h
    exact kept.handDown _ _ _ (kept.keep hcomputed)
  · exact h

theorem demandComes {s : State} (elapsed : Nat) (course : Course) (bytes : List Byte) (h : P s) :
    P (s.demandComes elapsed course bytes) := by
  unfold State.demandComes
  split
  · exact kept.runAccepted _ _ (kept.receiveDemand _ (kept.tick _ h))
  · exact kept.tick _ h

theorem substituteExpires {s : State} (expiry : Nat) (course : Course) (h : P s) :
    P (s.substituteExpires expiry course) :=
  kept.runAccepted _ _ (kept.handDown _ _ _ (kept.computeCycle _ _ _ (kept.keep h)))

/-! ### Commands -/

theorem request {s : State} (kind : Byte) (area : RequestArea) (h : P s) : P (s.request kind area) := by
  unfold State.request
  split
  · exact kept.handOver _ h
  · exact h

theorem function {s : State} (f : GroupFunction) (c : Carrier) (h : P s) : P (s.function f c) :=
  kept.demandComes _ _ _ h

/-- Every command is made of the elementary changes. -/
theorem exec {s t : State} {c : Instr} (h : P s) (he : exec c s = .next t) : P t := by
  have hnext : ∀ u : State, P u → Machine.exec c s = .next u → P t := fun u hu hc => by
    rw [hc] at he
    cases he
    exact hu
  cases c with
  | powerOn =>
    refine hnext _ ?_ rfl
    have hreset : P (s.withPowered true).resetBlocks := kept.resetBlocks _
    split
    · exact hreset
    · exact kept.endReset hreset
  | resetInputAssert => exact hnext _ (kept.resetBlocks _) rfl
  | resetInputRelease =>
    refine hnext _ ?_ rfl
    split
    · split
      · exact kept.endReset (kept.keep h)
      · exact kept.keep h
    · exact h
  | estopAssert => exact hnext _ (kept.assertEstop h) rfl
  | estopRelease => exact hnext _ (kept.releaseEstop h) rfl
  | setupChange active => exact hnext _ (kept.changeSetup active h) rfl
  | demandReception elapsed course bytes => exact hnext _ (kept.demandComes elapsed course bytes h) rfl
  | deadlineExpiry => exact hnext _ (kept.deadlineComes h) rfl
  | substituteExpiry course =>
    refine hnext _ ?_ rfl
    split
    · split
      · exact kept.substituteExpires _ _ h
      · exact h
    · exact h
  | demandSent elapsed course =>
    refine hnext _ ?_ rfl
    split
    · exact kept.runAccepted _ _ (kept.finishDemand (kept.tick _ h))
    · exact kept.tick _ h
  | feedbackReception elapsed bytes =>
    refine hnext _ ?_ rfl
    split
    · exact kept.receiveFeedback _ (kept.tick _ h)
    · exact kept.tick _ h
  | feedbackSent elapsed =>
    refine hnext _ ?_ rfl
    split
    · exact kept.finishFeedback (kept.tick _ h)
    · exact kept.tick _ h
  | commitCheckEnd => exact hnext _ (kept.checkEnds h) rfl
  | calibrationWriteEnd => exact hnext _ (kept.writeEnds h) rfl
  | read area => exact hnext _ (kept.request _ area h) rfl
  | openTransfer area => exact hnext _ (kept.request _ area h) rfl
  | transferData area => exact hnext _ (kept.request _ area h) rfl
  | closeTransfer area => exact hnext _ (kept.request _ area h) rfl
  | commit area => exact hnext _ (kept.request _ area h) rfl
  | liveWrite area => exact hnext _ (kept.request _ area h) rfl
  | setLiveWindow area => exact hnext _ (kept.request _ area h) rfl
  | storeCalibration area => exact hnext _ (kept.request _ area h) rfl
  | restart area => exact hnext _ (kept.request _ area h) rfl
  | describe area => exact hnext _ (kept.request _ area h) rfl
  | unknownKind kind area => exact hnext _ (kept.request kind area h) rfl
  | engage g c => exact hnext _ (kept.function _ c h) rfl
  | release g c => exact hnext _ (kept.function _ c h) rfl
  | clear g c => exact hnext _ (kept.function _ c h) rfl
  | clearPart c => exact hnext _ (kept.function _ c h) rfl
  | capture c => exact hnext _ (kept.function _ c h) rfl
  | rearm c => exact hnext _ (kept.function _ c h) rfl
  | clearRestart c => exact hnext _ (kept.function _ c h) rfl
  | powerFailure => exact hnext _ (kept.resetBlocks _) rfl
  | groupControl area => exact hnext _ (kept.request _ area h) rfl

/-- A property every elementary change keeps holds after every step. -/
theorem step {s t : State} (h : P s) (hstep : step s = .next t) : P t := by
  unfold Machine.step at hstep
  split at hstep
  · cases hstep
    exact h
  · exact kept.exec (kept.keep h (by constructor <;> simp)) hstep

end KeptByChanges

end Sys2Proof.Machine
end

section
/-! No group couples while the Restart flag is set or its level is HOLD or SAFE (R57). -/

namespace Sys2Proof.Machine

/-! ### Levels and group states (R57) -/

/-- A group that couples after its level has changed coupled before, and its new level is below HOLD (R57). -/
theorem GroupCoupling.onLevel_couples {c : GroupCoupling} {old new : Level}
    (hold : c.state.couples = true → old.code ≤ 2) (h : (c.onLevel old new).state.couples = true) :
    c.state.couples = true ∧ new.code ≤ 2 := by
  obtain ⟨state, step, suspend⟩ := c
  unfold GroupCoupling.onLevel at h
  split at h
  · cases state <;> simp [GroupCoupling.suspendOnRise, GroupState.couples] at h
  case isFalse hrise => exact ⟨h, by have := hold h; omega⟩

/-- Replacing the levels keeps every coupling group below HOLD, by releasing those whose level rises (R57). -/
theorem State.setLevels_couplingOk {s : State} (h : s.couplingOk) (levels : Quad Level) :
    (s.setLevels levels).couplingOk := fun g hg => by
  rw [State.setLevels_coupling] at hg
  obtain ⟨hcouples, hlevel⟩ := GroupCoupling.onLevel_couples (fun hc => (h g hc).2) hg
  rw [State.setLevels_reaction]
  exact ⟨(h g hcouples).1, hlevel⟩

theorem State.occurrence_couplingOk {s : State} (h : s.couplingOk) (k : FaultKind) (c : Chan) :
    (s.occurrence k c).couplingOk := fun g hg => by
  rw [State.occurrence_coupling] at hg
  obtain ⟨hcouples, hlevel⟩ := GroupCoupling.onLevel_couples (fun hc => (h g hc).2) hg
  rw [State.occurrence_reaction, Quad.get_ofFn]
  exact ⟨(h g hcouples).1, hlevel⟩

/-! ### Group functions (R54, R56, R59, R102, R103) -/

/-- A group that couples after ENGAGE and RELEASE coupled before, or passes R54's conditions. -/
theorem State.steered_couples {s : State} {w : Word} {g : Chan} (h : (s.steered w g).state.couples = true) :
    (s.coupling.get g).state.couples = true ∨ s.engageMayStart g = true := by
  unfold State.steered at h
  split at h
  case isTrue hengage =>
    simp only [State.performs, State.passes, Bool.and_eq_true] at hengage
    exact .inr hengage.2.1.1
  · split at h
    · cases h
    · exact .inl h

theorem State.steerGroups_couplingOk {s : State} (h : s.couplingOk) (w : Word) : (s.steerGroups w).couplingOk := by
  intro g hg
  have hsteered : (s.steered w g).state.couples = true := by simpa [State.steerGroups] using hg
  rw [show (s.steerGroups w).reaction = s.reaction by simp]
  rcases State.steered_couples hsteered with hcouples | hstart
  · exact h g hcouples
  · obtain ⟨-, hrestart, hlevel, -⟩ := (s.engageMayStart_iff g).mp hstart
    exact ⟨hrestart, by omega⟩

theorem State.detachCleared_couplingOk {s : State} (h : s.couplingOk) (w : Word) : (s.detachCleared w).couplingOk := by
  intro g hg
  simp only [State.detachCleared, State.withCoupling_coupling, Quad.get_ofFn] at hg
  split at hg
  · cases hg
  · exact h g hg

theorem State.performSet_couplingOk {s : State} (h : s.couplingOk) (w : Word) : (s.performSet w).couplingOk := by
  have hsteered := State.steerGroups_couplingOk h w
  have hcleared : ((s.steerGroups w).clearFaults w).couplingOk := by
    unfold State.clearFaults
    split
    · exact State.detachCleared_couplingOk (State.setLevels_couplingOk hsteered _) w
    · exact hsteered
  intro g hg
  have hcoupling : (s.performSet w).coupling = ((s.steerGroups w).clearFaults w).coupling := by
    simp [State.performSet]
  rw [hcoupling] at hg
  obtain ⟨hrestart, hlevel⟩ := hcleared g hg
  simp only [State.performSet, State.clearRestartFlag]
  split
  · exact ⟨rfl, hlevel⟩
  · exact ⟨hrestart, hlevel⟩

/-! ### Computations -/

theorem State.startCycle_couplingOk {s : State} (h : s.couplingOk) (start : CycleStart) :
    (s.startCycle start).couplingOk := by
  have hwork : (s.startWork start).couplingOk := fun g hg => by
    rw [show (s.startWork start).coupling = s.coupling by simp] at hg
    rw [State.startWork_reaction]
    exact h g hg
  unfold State.startCycle State.groupFunctionPoint
  split
  · split
    · exact State.performSet_couplingOk hwork _
    · exact hwork
  · exact hwork

/-- The coupling torque stage makes no group couple that did not (R55, R58). -/
theorem State.advancedGroup_couples {s : State} {g : Chan} (h : (s.advancedGroup g).state.couples = true) :
    (s.coupling.get g).state.couples = true := by
  cases hstate : (s.coupling.get g).state with
  | engaging => rfl
  | coupled => rfl
  | releasing =>
    simp only [State.advancedGroup, hstate] at h
    split at h
    · split at h <;> cases h
    · rw [hstate] at h; cases h
  | detached => simp [State.advancedGroup, hstate, GroupState.couples] at h
  | suspended => simp [State.advancedGroup, hstate, GroupState.couples] at h

theorem couplingOk_kept : KeptByChanges State.couplingOk where
  alike same h := fun g hg => by
    rw [same.coupling] at hg
    rw [same.restart, same.levels]
    exact h g hg
  occurrence k c h := State.occurrence_couplingOk h k c
  setupLine _ h := h
  resetBlocks s := fun g hg => by simp [State.resetBlocks, State.reset, GroupCoupling.reset, GroupState.couples] at hg
  checkEnds h := fun g hg => by simp only [State.checkEnds_frame] at hg ⊢; exact h g hg
  writeEnds h := fun g hg => by simp only [State.writeEnds_frame] at hg ⊢; exact h g hg
  handOver q h := fun g hg => by simp only [State.handOver_frame] at hg ⊢; exact h g hg
  sendPlain _ _ h := h
  sendAnswer _ _ _ h := h
  sentPlain _ _ h := h
  sentAnswer _ _ h := fun g hg => by simp only [State.advanceQueue_frame] at hg ⊢; exact h g hg
  startCycle start h := State.startCycle_couplingOk h start
  couplingStage h := fun g hg => by
    simp only [State.couplingStage_frame]
    exact h g (State.advancedGroup_couples (by simpa [State.couplingStage] using hg))

/-- Settles O10: a rise to HOLD or SAFE releases the group, an ENGAGE needs a level below them and the Restart flag
clear, and only a reset, which detaches every group, sets that flag. -/
theorem stepKeepsCouplingPermitted : Obligations.StepKeepsCouplingPermitted := fun _ _ h hstep =>
  couplingOk_kept.step h hstep

end Sys2Proof.Machine
end

section
/-! The coupling torque stage: the row of R43 each roller falls under, and the progress of the group cycle (R43 to R51,
R55, R58). -/

namespace Sys2Proof.Machine

/-! ### The rows of R43 -/

section
variable {t : RollerTorque} {img : Image} {g r : Chan} {c : GroupCoupling} {ref : RollerReference}

/-- No coupling outside a coupling group and at rest (R51). -/
theorem RollerTorque.settle_of_uncoupled (h : img.isCouplingGroup g = false ∨ c.state.atRest = true) :
    t.settle img g r c ref = t.uncoupled := by
  unfold RollerTorque.settle
  cases hgroup : img.isCouplingGroup g with
  | false => rfl
  | true =>
    have hrest := h.resolve_left (by rw [hgroup]; decide)
    obtain ⟨state, step, suspend⟩ := c
    cases state with
    | detached => rfl
    | suspended => rfl
    | engaging => cases hrest
    | coupled => cases hrest
    | releasing => cases hrest

section
variable (hgroup : img.isCouplingGroup g = true)
include hgroup

/-- The release ramp of an included member (R49). -/
theorem RollerTorque.settle_of_releasing (hstate : c.state = .releasing) (hincluded : ref.included = true) :
    t.settle img g r c ref = t.releaseRamp (img.releaseStep g) (authority img g r c) := by
  simp [RollerTorque.settle, hgroup, hstate, hincluded]

/-- The ramp-out of a member that is not included (R50). -/
theorem RollerTorque.settle_of_excluded (hactive : c.state.atRest = false) (hincluded : ref.included = false) :
    t.settle img g r c ref = t.rampOut (img.releaseStep g) (authority img g r c) := by
  unfold RollerTorque.settle
  rw [hgroup]
  cases hstate : c.state with
  | engaging => simp [hincluded]
  | coupled => simp [hincluded]
  | releasing => simp [hincluded]
  | detached => rw [hstate] at hactive; cases hactive
  | suspended => rw [hstate] at hactive; cases hactive

/-- The coupling torque of an included member (R44 to R48). -/
theorem RollerTorque.settle_of_coupling (hcouples : c.state.couples = true) (hincluded : ref.included = true) :
    t.settle img g r c ref = t.couple img g r ref.e (authority img g r c) := by
  unfold RollerTorque.settle
  rw [hgroup]
  cases hstate : c.state with
  | engaging => simp [hincluded]
  | coupled => simp [hincluded]
  | releasing => rw [hstate] at hcouples; cases hcouples
  | detached => rw [hstate] at hcouples; cases hcouples
  | suspended => rw [hstate] at hcouples; cases hcouples

end

end

/-! ### What the stage writes -/

section
variable {s : State} {g r : Chan}

@[simp] theorem State.couplingStage_torque (s : State) (r : Chan) : s.couplingStage.torque.get r = s.nextTorque r := by
  simp [State.couplingStage]

@[simp] theorem State.couplingStage_coupling (s : State) (g : Chan) :
    s.couplingStage.coupling.get g = s.advancedGroup g := by
  simp [State.couplingStage]

theorem State.settledTorque_of_group (hg : s.active.groupOf r = some g) :
    s.settledTorque r = (s.torque.get r).settle s.active g r (s.coupling.get g) (s.rollerRef.get r) := by
  simp [State.settledTorque, hg]

theorem State.nextTorque_of_ends (hg : s.active.groupOf r = some g) (h : s.releaseEnds g = true) :
    s.nextTorque r = { s.settledTorque r with a := 0, authSide := .none } := by
  simp [State.nextTorque, hg, h]

theorem State.nextTorque_of_goesOn (hg : s.active.groupOf r = some g) (h : s.releaseEnds g = false) :
    s.nextTorque r = s.settledTorque r := by
  simp [State.nextTorque, hg, h]

/-- The end of a release leaves the torques as they were settled (R58). -/
theorem State.nextTorque_qOut (s : State) (r : Chan) :
    (s.nextTorque r).qOut = (s.settledTorque r).qOut ∧ (s.nextTorque r).rangeSide = (s.settledTorque r).rangeSide := by
  unfold State.nextTorque
  split
  · exact ⟨rfl, rfl⟩
  · split <;> exact ⟨rfl, rfl⟩

/-- A release ends where the group is RELEASING and no member has torque left (R58). -/
theorem State.releaseEnds_iff :
    s.releaseEnds g = true ↔
      (s.coupling.get g).state = .releasing ∧ ∀ r ∈ s.active.members g, (s.settledTorque r).qOut = 0 := by
  simp [State.releaseEnds]

theorem State.releaseEnds_of_not_releasing (h : (s.coupling.get g).state ≠ .releasing) : s.releaseEnds g = false := by
  rw [Bool.eq_false_iff, ne_eq, State.releaseEnds_iff]
  exact fun ⟨hreleasing, _⟩ => h hreleasing

/-! ### The progress of a group (R55, R58) -/

theorem State.advancedGroup_of_absent (h : (s.coupling.get g).state = .engaging) (hp : (s.groupRef.get g).present = false) :
    s.advancedGroup g = s.coupling.get g := by
  simp [State.advancedGroup, h, hp]

theorem State.advancedGroup_of_step (h : (s.coupling.get g).state = .engaging) (hp : (s.groupRef.get g).present = true)
    (hlt : (s.coupling.get g).step < s.active.engageCycles g) :
    s.advancedGroup g = { s.coupling.get g with step := (s.coupling.get g).step + 1 } := by
  simp [State.advancedGroup, h, hp, hlt]

theorem State.advancedGroup_of_last (h : (s.coupling.get g).state = .engaging) (hp : (s.groupRef.get g).present = true)
    (hle : s.active.engageCycles g ≤ (s.coupling.get g).step) :
    s.advancedGroup g = { s.coupling.get g with state := .coupled } := by
  simp [State.advancedGroup, h, hp, hle]

theorem State.advancedGroup_of_ends (h : s.releaseEnds g = true) :
    s.advancedGroup g = ⟨if (s.coupling.get g).suspend then .suspended else .detached, 1, false⟩ := by
  obtain ⟨hreleasing, -⟩ := State.releaseEnds_iff.mp h
  simp [State.advancedGroup, hreleasing, h]

theorem State.advancedGroup_of_goesOn (hstate : (s.coupling.get g).state ≠ .engaging) (h : s.releaseEnds g = false) :
    s.advancedGroup g = s.coupling.get g := by
  unfold State.advancedGroup
  cases hs : (s.coupling.get g).state with
  | engaging => exact absurd hs hstate
  | releasing => simp [hs, h]
  | coupled => simp [hs]
  | detached => simp [hs]
  | suspended => simp [hs]

/-- The stage leaves a group at rest as it is. -/
theorem State.advancedGroup_of_atRest (h : (s.coupling.get g).state.atRest = true) :
    s.advancedGroup g = s.coupling.get g := by
  have hstate : (s.coupling.get g).state ≠ .engaging ∧ (s.coupling.get g).state ≠ .releasing := by
    constructor <;> (intro hs; rw [hs] at h; cases h)
  exact State.advancedGroup_of_goesOn hstate.1 (State.releaseEnds_of_not_releasing hstate.2)

end

/-! ### Clamps, sides and the anti-windup (R42, R45 to R48) -/

theorem clamp_eq {lo hi : Int} (h : lo ≤ hi) (x : Int) : clamp lo hi x = max lo (min hi x) := by
  unfold clamp
  split
  · omega
  · split <;> omega

theorem clampSide_upper {lo hi q : Int} (h : hi < q) : clampSide lo hi q = .upper := if_pos h

theorem clampSide_lower {lo hi q : Int} (hle : lo ≤ hi) (h : q < lo) : clampSide lo hi q = .lower := by
  rw [clampSide, if_neg (by omega), if_pos h]

theorem clampSide_none {lo hi q : Int} (hlo : lo ≤ q) (hhi : q ≤ hi) : clampSide lo hi q = .none := by
  rw [clampSide, if_neg (by omega), if_neg (by omega)]

theorem skipsUpdate_iff (t : RollerTorque) (e : Int) :
    skipsUpdate t e = true ↔ (0 < e ∧ (t.authSide = .upper ∨ t.rangeSide = .upper)) ∨
      (e < 0 ∧ (t.authSide = .lower ∨ t.rangeSide = .lower)) := by
  simp [skipsUpdate]

/-- S = 0 means no slew limit (R47). -/
theorem slewed_of_zero (prev q : Int) : slewed prev q 0 = q := if_pos rfl

theorem slewed_of_pos {slew : Int} (h : 0 < slew) (prev q : Int) :
    slewed prev q slew = prev + max (-slew) (min slew (q - prev)) := by
  rw [slewed, if_neg h.ne', clamp_eq (by omega)]

/-- Settles O39: the row of R43 for an included roller of a coupling group, quantity by quantity. -/
theorem couplingTorqueOfIncludedRoller : Obligations.CouplingTorqueOfIncludedRoller := by
  intro s g r hg hgroup hincluded hstate p n e alim qeff skip q qc
  have hcouples : (s.coupling.get g).state.couples = true := by
    rcases hstate with hs | hs <;> rw [hs] <;> rfl
  have hgoesOn : s.releaseEnds g = false :=
    State.releaseEnds_of_not_releasing (by rcases hstate with hs | hs <;> rw [hs] <;> decide)
  have hn : n = p.couple s.active g r e (authority s.active g r (s.coupling.get g)) := by
    rw [← RollerTorque.settle_of_coupling hgroup hcouples hincluded, ← State.settledTorque_of_group hg,
      ← State.nextTorque_of_goesOn hg hgoesOn]
    exact s.couplingStage_torque r
  have hqeff : (authority s.active g r (s.coupling.get g) : Int) = qeff := by
    rcases hstate with hs | hs <;> simp [authority, hs, qeff]
  have hnonneg : 0 ≤ qeff := hqeff ▸ Int.natCast_nonneg _
  have halim : 0 ≤ alim := Int.natCast_nonneg _
  have hslew : 0 ≤ s.active.slew r := Int.natCast_nonneg _
  have ha : n.a = accumulate p e alim := by rw [hn]; rfl
  have hq : rawTorque (s.active.kp g) (s.active.ki g) e n.a = q := rfl
  have hside : n.authSide = clampSide (-qeff) qeff q := by rw [← hq, ha, hn, ← hqeff]; rfl
  have hclamped : clamp (-qeff) qeff q = qc := clamp_eq (by omega) q
  have hout : n.qOut = clamp (-qeff) qeff (slewed p.qOut qc (s.active.slew r)) := by
    rw [← hclamped, ← hq, ha, hn, ← hqeff]; rfl
  have hskip : skip ↔ skipsUpdate p e = true := (skipsUpdate_iff p e).symm
  refine ⟨fun h => ?_, fun h => ?_, fun h => ?_, fun h => ?_, fun hlo hhi => ?_, fun h => ?_, fun h => ?_, ?_, ?_⟩
  · rw [ha, accumulate, if_pos (hskip.mp h)]
  · rw [ha, accumulate, if_neg fun hs => h (hskip.mpr hs), clamp_eq (by omega)]
  · rw [hside, clampSide_upper h]
  · rw [hside, clampSide_lower (by omega) h]
  · rw [hside, clampSide_none hlo hhi]
  · rw [hout, h, slewed_of_zero, ← hclamped]
    exact clamp_of_within (clamp_within (by omega) q)
  · rw [hout, slewed_of_pos (by omega), clamp_eq (by omega)]
  · rw [hn]; rfl
  · rw [← hqeff, hn]; rfl

/-! ### Release (R49 to R51, R58) -/

/-- The release ramp: a step toward zero, or zero within a step of it (R49). -/
theorem rampStep_cases (step x : Int) :
    (|x| ≤ step → rampStep step x = 0) ∧ (step < |x| → 0 < x → rampStep step x = x - step) ∧
    (step < |x| → x < 0 → rampStep step x = x + step) :=
  ⟨fun h => if_pos h, fun h hx => by rw [rampStep, if_neg (not_le.mpr h), if_pos hx],
    fun h hx => by rw [rampStep, if_neg (not_le.mpr h), if_neg (by omega)]⟩

/-- Settles O40: the rows of R43 for a release, a member that is not included, and no coupling. -/
theorem releaseRampTowardZero : Obligations.ReleaseRampTowardZero := by
  intro s g r hg p n step ramped
  have hn : n = s.nextTorque r := s.couplingStage_torque r
  have hqOut : n.qOut = (s.settledTorque r).qOut := hn ▸ (s.nextTorque_qOut r).1
  have hrange : n.rangeSide = (s.settledTorque r).rangeSide := hn ▸ (s.nextTorque_qOut r).2
  have hramped : (s.settledTorque r).qOut = rampStep step p.qOut → ramped := fun h => by
    simp only [ramped, hqOut, h]
    exact rampStep_cases step p.qOut
  have hcleared : s.releaseEnds g = true → n.authSide = .none ∧ n.a = 0 ∧ n.qOut = 0 := fun h => by
    have hmember : r ∈ s.active.members g := Image.mem_members.mpr hg
    rw [hqOut, hn, State.nextTorque_of_ends hg h]
    exact ⟨rfl, rfl, (State.releaseEnds_iff.mp h).2 r hmember⟩
  have hstands : s.releaseEnds g = false → n = s.settledTorque r := fun h => hn.trans (State.nextTorque_of_goesOn hg h)
  have hends : s.releaseEnds g = true ∨ s.releaseEnds g = false := Bool.eq_false_or_eq_true _
  refine ⟨fun hgroup hreleasing hincluded => ?_, fun hgroup hactive hexcluded => ?_, fun h => ?_⟩
  · have hsettled := State.settledTorque_of_group hg
    rw [RollerTorque.settle_of_releasing hgroup hreleasing hincluded] at hsettled
    refine ⟨hramped (by rw [hsettled]; rfl), ?_, by rw [hrange, hsettled]; rfl, fun hafter => ?_⟩
    · rcases hends with h | h
      · exact (hcleared h).1
      · rw [hstands h, hsettled]; rfl
    · rcases hends with h | h
      · rw [State.couplingStage_coupling, State.advancedGroup_of_ends h] at hafter
        dsimp only at hafter
        split at hafter <;> cases hafter
      · rw [hstands h, hsettled]; rfl
  · have hsettled := State.settledTorque_of_group hg
    rw [RollerTorque.settle_of_excluded hgroup hactive hexcluded] at hsettled
    have hzero : (s.settledTorque r).a = if (s.settledTorque r).qOut = 0 then 0 else p.a := by rw [hsettled]; rfl
    refine ⟨hramped (by rw [hsettled]; rfl), ?_, by rw [hrange, hsettled]; rfl, fun h0 => ?_, fun h0 => ?_⟩
    · rcases hends with h | h
      · exact (hcleared h).1
      · rw [hstands h, hsettled]; rfl
    · rcases hends with h | h
      · exact (hcleared h).2.1
      · rw [hstands h, hzero, if_pos (hqOut ▸ h0)]
    · rcases hends with h | h
      · exact absurd (hcleared h).2.2 h0
      · rw [hstands h, hzero, if_neg (hqOut ▸ h0)]
  · have hsettled := State.settledTorque_of_group hg
    rw [RollerTorque.settle_of_uncoupled h] at hsettled
    refine ⟨by rw [hqOut, hsettled]; rfl, ?_, ?_, by rw [hrange, hsettled]; rfl⟩
    · rcases hends with h | h
      · exact (hcleared h).2.1
      · rw [hstands h, hsettled]; rfl
    · rcases hends with h | h
      · exact (hcleared h).1
      · rw [hstands h, hsettled]; rfl

/-- Settles O41: the group's step or release is judged on what the stage has settled its members to. -/
theorem groupAdvancesAfterSettling : Obligations.GroupAdvancesAfterSettling := by
  intro s g c n E
  have hn : n = s.advancedGroup g := s.couplingStage_coupling g
  have hqOut : ∀ r, (s.couplingStage.torque.get r).qOut = (s.settledTorque r).qOut := fun r => by
    rw [State.couplingStage_torque, (s.nextTorque_qOut r).1]
  refine ⟨fun hstate hpresent => ⟨fun hlt => ?_, fun hlast => ?_⟩, fun hstate habsent => ?_,
    fun hstate => ⟨fun hzero => ?_, fun hsome => ?_⟩, fun hstate => ?_⟩
  · rw [hn, State.advancedGroup_of_step hstate hpresent hlt]
  · rw [hn, State.advancedGroup_of_last hstate hpresent hlast.ge]
  · rw [hn, State.advancedGroup_of_absent hstate habsent]
  · simp only [hqOut] at hzero
    have hends := State.releaseEnds_iff.mpr ⟨hstate, hzero⟩
    refine ⟨hn.trans (State.advancedGroup_of_ends hends), fun r hr => ?_⟩
    rw [State.couplingStage_torque, State.nextTorque_of_ends (Image.mem_members.mp hr) hends]
    exact ⟨rfl, rfl⟩
  · obtain ⟨r, hr, hne⟩ := hsome
    rw [hqOut] at hne
    have hgoesOn : s.releaseEnds g = false :=
      Bool.eq_false_iff.mpr fun h => hne ((State.releaseEnds_iff.mp h).2 r hr)
    rw [hn, State.advancedGroup_of_goesOn (by rw [hstate]; decide) hgoesOn]
  · rcases hstate with hcoupled | hrest
    · rw [hn, State.advancedGroup_of_goesOn (by rw [hcoupled]; decide)
        (State.releaseEnds_of_not_releasing (by rw [hcoupled]; decide))]
    · rw [hn, State.advancedGroup_of_atRest hrest]

end Sys2Proof.Machine
end

section
/-! The Service queue and the requests that hold its head (R153 to R155, R158 to R163). -/

namespace Sys2Proof.Machine

/-! ### What the performance of a request can do (R150 to R170) -/

/-- What an answered request leaves of the Image store: Active, the commit record and a write stand, and the pending live
writes stand or are one live write more, with which Active would still pass every check (R151, R157). -/
def ImageStore.answeredFrom (before after : ImageStore) : Prop :=
  after.active = before.active ∧ after.commit = before.commit ∧ after.writing = before.writing ∧
  (after.pendingLive = before.pendingLive ∨
    (applyLive before.active after.pendingLive).valid = true ∧
      ∃ f v, isLive f = true ∧ after.pendingLive = before.pendingLive ++ [⟨f, v⟩])

/-- A request is answered. -/
def State.answersOnly (s t : State) : Prop :=
  ∃ images p, s.images.answeredFrom images ∧ t = (s.withImages images).answer p

theorem State.answersOnly_withImages {s : State} {images : ImageStore} (h : s.images.answeredFrom images) (p : Response) :
    s.answersOnly ((s.withImages images).answer p) := ⟨images, p, h, rfl⟩

theorem State.answersOnly_answer (s : State) (p : Response) : s.answersOnly (s.answer p) :=
  State.answersOnly_withImages (images := s.images) ⟨rfl, rfl, rfl, .inl rfl⟩ p

theorem State.performData_answers (s : State) (q : Request) : s.answersOnly (s.performData q) := by
  refine ⟨s.transferred q, _, ?_, rfl⟩
  unfold State.transferred
  dsimp only
  split <;> exact ⟨rfl, rfl, rfl, .inl rfl⟩

theorem State.performClose_answers (s : State) (q : Request) : s.answersOnly (s.performClose q) := by
  unfold State.performClose
  split
  · refine State.answersOnly_withImages ?_ _
    exact ⟨rfl, rfl, rfl, .inl rfl⟩
  · exact s.answersOnly_answer _

theorem State.performLiveWrite_answers (s : State) (q : Request) : s.answersOnly (s.performLiveWrite q) := by
  unfold State.performLiveWrite
  dsimp only
  split
  · exact s.answersOnly_answer _
  · split
    · exact s.answersOnly_answer _
    case isFalse hlive =>
      split
      · exact s.answersOnly_answer _
      case h_2 hvalid =>
        rw [Bool.not_eq_true', Bool.not_eq_false] at hlive
        refine State.answersOnly_withImages ?_ _
        refine ⟨rfl, rfl, rfl, .inr ⟨?_, _, _, hlive, rfl⟩⟩
        rw [Image.valid]
        exact Option.isNone_iff_eq_none.mpr hvalid

theorem State.performWindow_answers (s : State) (q : Request) : s.answersOnly (s.performWindow q) := by
  unfold State.performWindow
  split
  · exact s.answersOnly_answer _
  · split
    · exact s.answersOnly_answer _
    · refine State.answersOnly_withImages ?_ _
      exact ⟨rfl, rfl, rfl, .inl rfl⟩

theorem State.performRestart_answers (s : State) (q : Request) : s.answersOnly (s.performRestart q) := by
  unfold State.performRestart
  split <;> exact s.answersOnly_answer _

/-- A request at the head is answered, or it waits: a GROUP_CONTROL for a computation, an accepted COMMIT for its check and
an accepted STORE_CALIBRATION for its write (R153, R158, R167). -/
theorem State.performKind_cases (s : State) (q : Request) :
    s.answersOnly (s.performKind q) ∨ s.performKind q = s ∨
    (q.code = 5 ∧ s.allAtRest = true ∧ s.performKind q = s.withImages { s.images with
      commit := { s.images.commit with state := .checking, expected := q.dataWord 0, age := 0 } }) ∨
    (q.code = 9 ∧ ∃ w n, s.performKind q =
      (s.withImages { s.images with writing := some w, calibrationValid := false }).withDraws n) := by
  unfold State.performKind
  split
  · exact .inl (s.answersOnly_answer _)
  · refine .inl (State.answersOnly_withImages ?_ _)
    exact ⟨rfl, rfl, rfl, .inl rfl⟩
  · exact .inl (s.performData_answers q)
  · exact .inl (s.performClose_answers q)
  case h_5 hcode =>
    unfold State.performCommit
    split
    · exact .inl (s.answersOnly_answer _)
    case h_2 haccepted =>
      refine .inr (.inr (.inl ⟨hcode, ?_, rfl⟩))
      unfold State.commitRefusal at haccepted
      split at haccepted
      · cases haccepted
      · split at haccepted
        · cases haccepted
        case isFalse hrest => simpa using hrest
  · exact .inl (s.performLiveWrite_answers q)
  · exact .inl (s.performWindow_answers q)
  · unfold State.performControl
    split
    · exact .inl (s.answersOnly_answer _)
    · exact .inr (.inl rfl)
  case h_9 hcode =>
    unfold State.performStore
    split
    · exact .inl (s.answersOnly_answer _)
    · exact .inr (.inr (.inr ⟨hcode, _, _, rfl⟩))
  · exact .inl (s.performRestart_answers q)
  · exact .inl (s.answersOnly_answer _)
  · exact .inl (s.answersOnly_answer _)

/-! ### The queue and its head (R160, R161, R163) -/

/-- The queue is in order and what holds the head holds it (R160, R161, R163). -/
def State.serviceOk (s : State) : Prop := s.queueOk ∧ s.headHeld

theorem State.headHeld_of_none {s : State} (hcommit : s.images.commit.state = .none) (hwriting : s.images.writing = none) :
    s.headHeld := ⟨fun h => absurd hcommit h, fun h => by simp [hwriting] at h⟩

/-- Nothing holds a head that does not wait, so neither a commit nor a write is going on (R163). -/
theorem State.headHeld.free {s : State} (h : s.headHeld) (hnot : ∀ code, ¬ s.headWaits code) :
    s.images.commit.state = .none ∧ s.images.writing = none :=
  ⟨by_contra fun hc => hnot _ (h.1 hc).1, by
    cases hw : s.images.writing with
    | none => rfl
    | some w => exact absurd (h.2 (by rw [hw]; rfl)) (hnot _)⟩

theorem State.headWaits.code_eq {s : State} {m n : Nat} (h : s.headWaits m) (h' : s.headWaits n) : m = n := by
  obtain ⟨q, rest, hq, hm, -⟩ := h
  obtain ⟨q', rest', hq', hn, -⟩ := h'
  rw [hq] at hq'
  cases hq'
  exact hm.symm.trans hn

theorem State.not_headWaits_of_progress {s : State} (h : s.service.progress ≠ some .waiting) (code : Nat) :
    ¬ s.headWaits code := fun ⟨_, _, _, _, hp⟩ => h hp

theorem State.answer_queueOk {s : State} (h : s.queueOk) (hwaits : s.service.progress = some .waiting) (p : Response) :
    (s.answer p).queueOk := by
  obtain ⟨hlength, hempty, -, hsent⟩ := h
  refine ⟨hlength, ?_, by simp [State.answer], ?_⟩
  · simpa [State.answer, hwaits] using hempty
  · simpa [State.answer, hwaits] using hsent

/-- Answering the head that a commit or a write held ends the hold (R161). -/
theorem State.answer_serviceOk {s : State} (h : s.queueOk) (hwaits : s.service.progress = some .waiting)
    (hcommit : s.images.commit.state = .none) (hwriting : s.images.writing = none) (p : Response) :
    (s.answer p).serviceOk :=
  ⟨State.answer_queueOk h hwaits p, State.headHeld_of_none (by simpa using hcommit) (by simpa using hwriting)⟩

/-- A state that agrees on the queue and on the telegram going up keeps the queue in order. -/
theorem State.queueOk_congr {s t : State} (hservice : t.service.queue = s.service.queue ∧
    t.service.progress = s.service.progress ∧ t.service.ready = s.service.ready)
    (hsending : t.cellPort.sending = s.cellPort.sending) (h : s.queueOk) : t.queueOk := by
  obtain ⟨hqueue, hprogress, hready⟩ := hservice
  simpa only [State.queueOk, hqueue, hprogress, hready, hsending] using h

theorem State.headHeld_congr {s t : State} (hcommit : t.images.commit.state = s.images.commit.state)
    (hwriting : t.images.writing = s.images.writing) (hservice : t.service.queue = s.service.queue ∧
    t.service.progress = s.service.progress) (hrest : s.allAtRest = true → t.allAtRest = true) (h : s.headHeld) :
    t.headHeld := by
  obtain ⟨hqueue, hprogress⟩ := hservice
  have hwaits : ∀ code, s.headWaits code → t.headWaits code := fun code hw => by
    simpa only [State.headWaits, hqueue, hprogress] using hw
  refine ⟨fun hc => ?_, fun hw => hwaits _ (h.2 (hwriting ▸ hw))⟩
  obtain ⟨hhead, hatrest⟩ := h.1 (hcommit ▸ hc)
  exact ⟨hwaits _ hhead, hrest hatrest⟩

/-- A request performed as the head keeps the queue in order, and holds the head where it is accepted and not answered. -/
theorem State.performKind_serviceOk {s : State} {q : Request} {rest : List Request} (h : s.queueOk)
    (hqueue : s.service.queue = q :: rest) (hwaits : s.service.progress = some .waiting)
    (hcommit : s.images.commit.state = .none) (hwriting : s.images.writing = none) :
    (s.performKind q).serviceOk := by
  rcases s.performKind_cases q with ⟨images, p, himages, heq⟩ | heq | ⟨hcode, hrest, heq⟩ | ⟨hcode, w, n, heq⟩
  · obtain ⟨-, hc, hw, -⟩ := himages
    rw [heq]
    refine State.answer_serviceOk (s := s.withImages images) (State.queueOk_congr ⟨rfl, rfl, rfl⟩ rfl h) hwaits ?_ ?_ p
    · rw [State.withImages_images, hc, hcommit]
    · rw [State.withImages_images, hw, hwriting]
  · rw [heq]
    exact ⟨h, State.headHeld_of_none hcommit hwriting⟩
  · rw [heq]
    refine ⟨State.queueOk_congr ⟨rfl, rfl, rfl⟩ rfl h, fun _ => ⟨⟨q, rest, hqueue, hcode, hwaits⟩, hrest⟩, fun hw => ?_⟩
    simp [hwriting] at hw
  · rw [heq]
    exact ⟨State.queueOk_congr ⟨rfl, rfl, rfl⟩ rfl h, fun hc => absurd hcommit hc,
      fun _ => ⟨q, rest, hqueue, hcode, hwaits⟩⟩

end Sys2Proof.Machine
end

section
/-! The Service queue stays in order and its head held, whatever a command does (R153 to R155, R158 to R163). -/

namespace Sys2Proof.Machine

/-! ### Groups at rest (R57, R153) -/

theorem State.allAtRest_iff (s : State) : s.allAtRest = true ↔ ∀ g, (s.coupling.get g).state.atRest = true := by
  simp [State.allAtRest]

/-- No level's change moves a group at rest (R57). -/
theorem GroupCoupling.onLevel_of_atRest {c : GroupCoupling} (h : c.state.atRest = true) (old new : Level) :
    c.onLevel old new = c := by
  obtain ⟨state, step, suspend⟩ := c
  unfold GroupCoupling.onLevel
  split
  · cases state with
    | detached => rfl
    | suspended => rfl
    | engaging => cases h
    | coupled => cases h
    | releasing => cases h
  · rfl

theorem State.occurrence_allAtRest {s : State} (h : s.allAtRest = true) (k : FaultKind) (c : Chan) :
    (s.occurrence k c).allAtRest = true := by
  rw [State.allAtRest_iff] at h ⊢
  intro g
  rw [State.occurrence_coupling, GroupCoupling.onLevel_of_atRest (h g)]
  exact h g

/-! ### The ends of a check and of a write (R154, R159) -/

/-- A change of the commit record and of a write alone keeps the queue in order. -/
theorem State.withImages_queueOk {s : State} (h : s.queueOk) (images : ImageStore) : (s.withImages images).queueOk :=
  State.queueOk_congr ⟨rfl, rfl, rfl⟩ rfl h

theorem State.headWaits.queue {s : State} {code : Nat} (h : s.headWaits code) : ∃ q rest, s.service.queue = q :: rest := by
  obtain ⟨q, rest, hqueue, -⟩ := h
  exact ⟨q, rest, hqueue⟩

theorem State.headWaits.progress {s : State} {code : Nat} (h : s.headWaits code) :
    s.service.progress = some .waiting := by
  obtain ⟨_, _, _, _, hprogress⟩ := h
  exact hprogress

/-- While a commit holds the head no write goes on (R158, R163). -/
theorem State.headHeld.writing_none {s : State} (h : s.headHeld) (hcommit : s.images.commit.state ≠ .none) :
    s.images.writing = none := by
  obtain ⟨hhead, -⟩ := h.1 hcommit
  cases hw : s.images.writing with
  | none => rfl
  | some w => exact absurd (hhead.code_eq (h.2 (by rw [hw]; rfl))) (by decide)

/-- While a write holds the head no commit goes on (R153, R163). -/
theorem State.headHeld.commit_none {s : State} (h : s.headHeld) (hwriting : s.images.writing.isSome = true) :
    s.images.commit.state = .none := by
  by_contra hcommit
  rw [h.writing_none hcommit] at hwriting
  cases hwriting

/-- The response that ends a hold is the head's (R161). -/
theorem State.answerHead_serviceOk {s : State} {q : Request} {rest : List Request} (h : s.queueOk)
    (hqueue : s.service.queue = q :: rest) (hwaits : s.service.progress = some .waiting)
    (hcommit : s.images.commit.state = .none) (hwriting : s.images.writing = none) (f : Request → Response) :
    (s.answerHead f).serviceOk := by
  rw [State.answerHead, hqueue]
  exact State.answer_serviceOk h hwaits hcommit hwriting _

theorem State.endCheck_serviceOk {s : State} (h : s.serviceOk) (hchecking : s.images.commit.state ≠ .none) :
    s.endCheck.serviceOk := by
  obtain ⟨hhead, hrest⟩ := h.2.1 hchecking
  have hwriting := h.2.writing_none hchecking
  obtain ⟨q, rest, hqueue⟩ := hhead.queue
  have hended : ∀ f, ((s.withCheck .none).answerHead f).serviceOk := fun f =>
    State.answerHead_serviceOk (s := s.withCheck .none) (State.withImages_queueOk h.1 _) hqueue hhead.progress rfl
      hwriting f
  unfold State.endCheck
  dsimp only
  split
  · exact hended _
  · split
    · exact hended _
    · exact ⟨State.withImages_queueOk h.1 _, fun _ => ⟨hhead, hrest⟩, fun hw => by
        rw [State.withCheck, State.withImages_images, hwriting] at hw; cases hw⟩

theorem State.checkEnds_serviceOk {s : State} (h : s.serviceOk) : s.checkEnds.serviceOk := by
  unfold State.checkEnds
  split
  case isTrue hends =>
    simp only [Bool.and_eq_true, beq_iff_eq] at hends
    exact State.endCheck_serviceOk h (by rw [hends.2]; decide)
  case isFalse => exact h

theorem State.writeEnds_serviceOk {s : State} (h : s.serviceOk) : s.writeEnds.serviceOk := by
  unfold State.writeEnds
  split
  case h_1 w hw =>
    split
    · have hwriting : s.images.writing.isSome = true := by rw [hw]; rfl
      have hhead := h.2.2 hwriting
      obtain ⟨q, rest, hqueue⟩ := hhead.queue
      have hqueueOk : ((s.withCalibration ⟨w.fields, w.count, calibrationCrc w.fields w.count⟩).withImages
          { s.images with writing := none, calibrationValid := true }).queueOk :=
        State.queueOk_congr ⟨rfl, rfl, rfl⟩ rfl h.1
      exact State.answerHead_serviceOk hqueueOk hqueue hhead.progress (h.2.commit_none hwriting) rfl _
    · exact h
  · exact h

/-! ### Requests and responses (R129, R160, R161) -/

theorem State.not_headWaits_of_queue {s : State} (h : s.service.queue = []) (code : Nat) : ¬ s.headWaits code :=
  fun ⟨_, _, hq, _⟩ => by rw [h] at hq; cases hq

theorem State.headWaits.append {s : State} {code : Nat} (h : s.headWaits code) (q : Request) :
    (s.appendRequest q).headWaits code := by
  obtain ⟨p, rest, hqueue, hcode, hprogress⟩ := h
  refine ⟨p, rest ++ [q], ?_, hcode, hprogress⟩
  simp [State.appendRequest, hqueue]

theorem State.handOver_serviceOk {s : State} (h : s.serviceOk) (q : Request) : (s.handOver q).serviceOk := by
  obtain ⟨⟨hlength, hempty, hready, hsent⟩, hheld⟩ := h
  rcases s.handOver_cases q with ⟨-, hqueue, heq⟩ | ⟨hroom, hqueue, heq⟩ | ⟨-, heq⟩
  · obtain ⟨hcommit, hwriting⟩ := hheld.free (State.not_headWaits_of_queue hqueue)
    have hprogress : s.service.progress = none := hempty.mpr hqueue
    rw [heq]
    refine State.performKind_serviceOk (rest := []) ⟨?_, ?_, ?_, ?_⟩ rfl rfl hcommit hwriting
    · simp
    · simp
    · simp
    · simpa [State.appendRequest, hprogress] using hsent
  · have hhead : (s.appendRequest q).service.queue = s.service.queue ++ [q] := rfl
    rw [heq]
    refine ⟨⟨?_, ?_, hready, hsent⟩, ?_, fun hw => ?_⟩
    · rw [hhead, List.length_append]
      exact hroom
    · have hnone : s.service.progress ≠ none := fun hp => hqueue (hempty.mp hp)
      exact iff_of_false hnone (by rw [hhead]; simp)
    · exact fun hc => ⟨State.headWaits.append (hheld.1 hc).1 q, (hheld.1 hc).2⟩
    · exact State.headWaits.append (hheld.2 hw) q
  · rw [heq]
    exact ⟨State.queueOk_congr ⟨rfl, rfl, rfl⟩ rfl ⟨hlength, hempty, hready, hsent⟩,
      State.headHeld_congr rfl rfl ⟨rfl, rfl⟩ id hheld⟩

/-- The next entry becomes the head and is performed, or the queue is empty (R161). -/
theorem State.advanceQueue_serviceOk {s : State} (h : s.service.queue.length ≤ 4) (hsent : s.cellPort.sending = none)
    (hcommit : s.images.commit.state = .none) (hwriting : s.images.writing = none) : s.advanceQueue.serviceOk := by
  unfold State.advanceQueue State.performHead
  split
  case h_1 hqueue =>
    refine ⟨⟨?_, ?_, ?_, ?_⟩, State.headHeld_of_none hcommit hwriting⟩
    · simp only [State.withService_service] at hqueue ⊢
      rw [hqueue]
      decide
    · simpa using hqueue
    · simp
    · simp [hsent]
  case h_2 q rest hqueue =>
    simp only [State.withService_service] at hqueue
    refine State.performKind_serviceOk (rest := rest) ⟨?_, ?_, ?_, ?_⟩ hqueue rfl hcommit hwriting
    · have hdrop := List.length_drop (i := 1) (l := s.service.queue)
      simp only [State.withService_service]
      omega
    · simp [hqueue]
    · simp
    · simp [hsent]

/-! ### The start of a computation (R53, R133, R154, R155) -/

theorem State.countCheck_serviceOk {s : State} (h : s.serviceOk) : s.countCheck.serviceOk := by
  unfold State.countCheck
  split
  case isTrue hchecking =>
    have hcounted : (s.withImages { s.images with
        commit := { s.images.commit with age := s.images.commit.age + 1 } }).serviceOk :=
      ⟨State.withImages_queueOk h.1 _, State.headHeld_congr rfl rfl ⟨rfl, rfl⟩ id h.2⟩
    dsimp only
    split
    · refine State.endCheck_serviceOk hcounted ?_
      rw [State.withImages_images, hchecking]
      decide
    · exact hcounted
  case isFalse => exact h

theorem State.commitCopy_serviceOk {s : State} (h : s.serviceOk) : s.commitCopy.serviceOk := by
  unfold State.commitCopy
  split
  case isTrue hready =>
    have hcommit : s.images.commit.state ≠ .none := by rw [hready]; decide
    obtain ⟨hhead, -⟩ := h.2.1 hcommit
    obtain ⟨q, rest, hqueue⟩ := hhead.queue
    exact State.answerHead_serviceOk (s := s.withImages { s.images with
        active := s.images.staging, commit := { s.images.commit with state := .none } })
      (State.withImages_queueOk h.1 _) hqueue hhead.progress rfl (h.2.writing_none hcommit) _
  case isFalse => exact h

theorem State.startWork_serviceOk {s : State} (h : s.serviceOk) (start : CycleStart) :
    (s.startWork start).serviceOk := by
  have hcounted := State.countCheck_serviceOk h
  have hbegun : (s.beginCycle start).serviceOk := by
    refine ⟨State.queueOk_congr ?_ ?_ hcounted.1, State.headHeld_congr ?_ ?_ ?_ ?_ hcounted.2⟩ <;>
      simp [State.beginCycle, State.applyPendingLive, State.allAtRest]
  have hcopied := State.commitCopy_serviceOk hbegun
  refine ⟨State.queueOk_congr ?_ ?_ hcopied.1, State.headHeld_congr ?_ ?_ ?_ ?_ hcopied.2⟩ <;>
    simp [State.startWork, State.allAtRest]

/-- A GROUP_CONTROL that is judged holds the head, so neither a commit nor a write does (R163, R167). -/
theorem State.groupFunctionPoint_serviceOk {s : State} (h : s.serviceOk) : s.groupFunctionPoint.serviceOk := by
  unfold State.groupFunctionPoint
  split
  case h_1 q rest hqueue hprogress =>
    split
    case isTrue hcode =>
      have hhead : s.headWaits 8 := ⟨q, rest, hqueue, hcode, hprogress⟩
      have hcommit : s.images.commit.state = .none :=
        by_contra fun hc => absurd (hhead.code_eq (h.2.1 hc).1) (by decide)
      have hwriting : s.images.writing = none := by
        cases hw : s.images.writing with
        | none => rfl
        | some w => exact absurd (hhead.code_eq (h.2.2 (by rw [hw]; rfl))) (by decide)
      refine State.answer_serviceOk (State.queueOk_congr ?_ ?_ h.1) ?_ ?_ ?_ _ <;> simp [hprogress, hcommit, hwriting]
    case isFalse => exact h
  · exact h

/-- The queue stays in order and its head held. -/
theorem serviceOk_kept : KeptByChanges State.serviceOk where
  alike same h := by
    refine ⟨State.queueOk_congr ?_ same.sending h.1, State.headHeld_congr ?_ ?_ ?_ ?_ h.2⟩
    · simp [same.service]
    · rw [same.images]
    · rw [same.images]
    · simp [same.service]
    · simp [State.allAtRest, same.coupling]
  occurrence k c h := by
    refine ⟨State.queueOk_congr ?_ ?_ h.1, State.headHeld_congr ?_ ?_ ?_ (fun hr => State.occurrence_allAtRest hr k c) h.2⟩ <;>
      simp
  setupLine _ h := ⟨State.withImages_queueOk h.1 _, State.headHeld_congr rfl rfl ⟨rfl, rfl⟩ id h.2⟩
  resetBlocks s := ⟨⟨by simp [State.resetBlocks, State.reset, Service.reset],
    by simp [State.resetBlocks, State.reset, Service.reset], by simp [State.resetBlocks, State.reset, Service.reset],
    by simp [State.resetBlocks, State.reset, Service.reset, CellPort.reset]⟩, State.headHeld_of_none rfl rfl⟩
  checkEnds := State.checkEnds_serviceOk
  writeEnds := State.writeEnds_serviceOk
  handOver q h := State.handOver_serviceOk h q
  sendPlain b hfree h := by
    obtain ⟨⟨hlength, hempty, hready, hsent⟩, hheld⟩ := h
    refine ⟨⟨hlength, hempty, hready, ?_⟩, hheld⟩
    rw [hfree] at hsent
    simpa [State.sendUp] using hsent
  sendAnswer b hfree hperformed h := by
    obtain ⟨⟨hlength, hempty, hready, hsent⟩, hheld⟩ := h
    obtain ⟨hcommit, hwriting⟩ := hheld.free (State.not_headWaits_of_progress (by rw [hperformed]; decide))
    refine ⟨⟨hlength, ?_, ?_, ?_⟩, State.headHeld_of_none hcommit hwriting⟩
    · simpa [State.carried, hperformed] using hempty
    · simpa [State.carried, hperformed] using hready
    · simp [State.carried, State.sendUp]
  sentPlain hsending hplain h := by
    obtain ⟨⟨hlength, hempty, hready, hsent⟩, hheld⟩ := h
    refine ⟨⟨hlength, hempty, hready, ?_⟩, hheld⟩
    simpa [hsending, hplain] using hsent
  sentAnswer hsending hcarries h := by
    obtain ⟨⟨hlength, hempty, hready, hsent⟩, hheld⟩ := h
    have hanswered := hsent.mpr ⟨_, hsending, hcarries⟩
    obtain ⟨hcommit, hwriting⟩ := hheld.free (State.not_headWaits_of_progress (by rw [hanswered]; decide))
    exact State.advanceQueue_serviceOk hlength rfl hcommit hwriting
  startCycle start h := State.groupFunctionPoint_serviceOk (State.startWork_serviceOk h start)
  couplingStage h := by
    refine ⟨State.queueOk_congr ?_ ?_ h.1, State.headHeld_congr ?_ ?_ ?_ (fun hr => ?_) h.2⟩
    · simp
    · simp
    · simp
    · simp
    · simp
    · rw [State.allAtRest_iff] at hr ⊢
      intro g
      rw [State.couplingStage_coupling, State.advancedGroup_of_atRest (hr g)]
      exact hr g

end Sys2Proof.Machine
end

section
/-! The Active image stays valid (R146 to R148, R154 to R157). -/

namespace Sys2Proof.Machine

/-! ### The image a reset loads (R146, R147) -/

theorem foldl_put_field {i : Nat} : ∀ (values : List (Nat × Word)) (img : Image), (∀ p ∈ values, p.1 < 254 ∧ p.1 ≠ i) →
    (values.foldl (fun acc p => acc.put p.1 p.2) img).field i = img.field i
  | [], _, _ => rfl
  | p :: values, img, h => by
    obtain ⟨hlt, hne⟩ := h p (by simp)
    rw [List.foldl_cons, foldl_put_field values _ fun q hq => h q (by simp [hq]), Image.field_put _ hlt,
      if_neg (Ne.symm hne)]

theorem mem_maintenanceFields {i : Nat} : i ∈ maintenanceFields ↔ i < 254 ∧ isMaintenance i = true := by
  simp [maintenanceFields]

/-- Loading the maintenance values leaves every other field (R146). -/
theorem withMaintenance_field {i : Nat} (h : isMaintenance i = false) (img : Image) (values : List Word) :
    (withMaintenance img values).field i = img.field i := by
  refine foldl_put_field _ _ fun p hp => ?_
  obtain ⟨hlt, hmaintenance⟩ := mem_maintenanceFields.mp (List.of_mem_zip (a := p.1) (b := p.2) hp).1
  refine ⟨hlt, fun heq => ?_⟩
  rw [heq, h] at hmaintenance
  cases hmaintenance

section
variable {img img' : Image} (h : ∀ j, isMaintenance j = false → img.field j = img'.field j)
include h

theorem roller_eq_of_agree (r : Chan) {o : Nat} (ho : o ∈ [0, 1, 2, 3, 11, 12, 14]) : img.roller r o = img'.roller r o :=
  h _ ((by decide : ∀ r : Chan, ∀ o ∈ [0, 1, 2, 3, 11, 12, 14], isMaintenance (10 + 15 * r.val + o) = false) r o ho)

theorem field_eq_of_agree {j : Nat} (hj : 70 ≤ j) : img.field j = img'.field j :=
  h j (by simp only [isMaintenance, Bool.or_eq_false_iff, Bool.and_eq_false_iff, beq_eq_false_iff_ne,
      decide_eq_false_iff_not]; omega)

theorem groupOf_eq_of_agree (r : Chan) : img.groupOf r = img'.groupOf r := by
  simp only [Image.groupOf, roller_eq_of_agree h r (o := 0) (by decide)]

theorem members_eq_of_agree (g : Chan) : img.members g = img'.members g :=
  List.filter_congr fun r _ => by rw [Image.isMember, Image.isMember, groupOf_eq_of_agree h]

theorem setupFails_eq_of_agree {i : Nat} (hlt : i < 10) (hi : isMaintenance i = false) :
    setupFails img i = setupFails img' i := by
  have hlow : i ≠ 0 ∧ (i < 2 ∨ 5 < i) := by
    simp only [isMaintenance, Bool.or_eq_false_iff, Bool.and_eq_false_iff, beq_eq_false_iff_ne,
      decide_eq_false_iff_not] at hi
    omega
  obtain rfl | rfl | rfl | rfl | rfl : i = 1 ∨ i = 6 ∨ i = 7 ∨ i = 8 ∨ i = 9 := by omega
  · simp only [setupFails, h 1 rfl]
  · simp only [setupFails, h 6 rfl]
  · have hnsat : img.nsat = img'.nsat := by rw [Image.nsat, Image.nsat, h 7 rfl]
    have hpost : img.postTrigger = img'.postTrigger := by rw [Image.postTrigger, Image.postTrigger, h 7 rfl]
    simp only [setupFails, hnsat, hpost]
  · simp only [setupFails, h 8 rfl]
  · simp only [setupFails, h 9 rfl]

theorem rollerFails_eq_of_agree (r : Chan) {o : Nat} (ho : o ∈ [0, 1, 2, 3, 11, 12, 14]) :
    rollerFails img r o = rollerFails img' r o := by
  have hroller := fun o => roller_eq_of_agree h r (o := o)
  have href : img.curveRef r = img'.curveRef r := congrArg BitVec.toNat (hroller 3 (by decide))
  have hcount : ∀ c, img.curveCount c = img'.curveCount c := fun c => by
    rw [Image.curveCount, Image.curveCount, field_eq_of_agree h (by omega)]
  simp only [List.mem_cons, List.not_mem_nil, or_false] at ho
  rcases ho with rfl | rfl | rfl | rfl | rfl | rfl | rfl <;>
    simp only [rollerFails, href, hcount, hroller 0 (by decide), hroller 1 (by decide), hroller 2 (by decide),
      hroller 3 (by decide), hroller 11 (by decide), hroller 12 (by decide), hroller 14 (by decide)]

theorem groupFails_eq_of_agree (g : Chan) (o : Nat) : groupFails img g o = groupFails img' g o := by
  have hgroup : ∀ o, img.group g o = img'.group g o := fun o => field_eq_of_agree h (by omega)
  have hcouples : img.isCouplingGroup g = img'.isCouplingGroup g := by
    rw [Image.isCouplingGroup, Image.isCouplingGroup, members_eq_of_agree h]
  have hweights : img.weightSum g = img'.weightSum g := by
    have hweight : ∀ r, img.weight r = img'.weight r := fun r => by
      rw [Image.weight, Image.weight, roller_eq_of_agree h r (by decide)]
    rw [Image.weightSum, Image.weightSum, members_eq_of_agree h, funext hweight]
  have hw1 : img.w1 g = img'.w1 g := by rw [Image.w1, Image.w1, hgroup]
  have hw2 : img.w2 g = img'.w2 g := by rw [Image.w2, Image.w2, hgroup]
  simp only [groupFails, hgroup, hcouples, hweights, hw1, hw2]

theorem curveFails_eq_of_agree {c : Nat} (o : Nat) : curveFails img c o = curveFails img' c o := by
  have hcount : img.curveCount c = img'.curveCount c := congrArg BitVec.toNat (field_eq_of_agree h (by omega))
  have hspeed : ∀ j, img.curveSpeed c j = img'.curveSpeed c j := fun j =>
    congrArg BitVec.toInt (field_eq_of_agree h (by omega))
  have hratio : ∀ j, img.curveRatio c j = img'.curveRatio c j := fun j =>
    congrArg (fun w : Word => (w.toNat : Int)) (field_eq_of_agree h (by omega))
  simp only [curveFails, hcount, hspeed, hratio]

/-- The checks of a field that is not of the maintenance class read no field that is (R145, R147). -/
theorem fieldFails_eq_of_agree {i : Nat} (hi : isMaintenance i = false) : fieldFails img i = fieldFails img' i := by
  unfold fieldFails
  split
  case isTrue hlt => exact setupFails_eq_of_agree h hlt hi
  · split
    case isTrue hge hlt =>
      refine rollerFails_eq_of_agree h _ ?_
      simp only [isMaintenance, Bool.or_eq_false_iff, Bool.and_eq_false_iff, beq_eq_false_iff_ne,
        decide_eq_false_iff_not] at hi
      simp only [List.mem_cons, List.not_mem_nil, or_false]
      omega
    · split
      · exact groupFails_eq_of_agree h _ _
      · split
        · exact curveFails_eq_of_agree h _
        · rw [reactionFails, reactionFails, field_eq_of_agree h (by omega)]

end

theorem defaultImage_valid : defaultImage.valid = true := by decide +kernel

theorem loadedImage_valid (c : CalibrationStore) : (loadedImage c).valid = true := by
  unfold loadedImage
  split
  case isTrue hvalid =>
    rw [Image.valid_iff]
    intro i hi
    cases hmaintenance : isMaintenance i with
    | true =>
      simp only [CalibrationStore.valid, calibrationValuesValid, Bool.and_eq_true, List.all_eq_true] at hvalid
      simpa using hvalid.1.2 i (mem_maintenanceFields.mpr ⟨hi, hmaintenance⟩)
    | false =>
      rw [fieldFails_eq_of_agree (fun j hj => withMaintenance_field hj defaultImage c.fields) hmaintenance]
      exact (Image.valid_iff _).mp defaultImage_valid i hi
  case isFalse => exact defaultImage_valid

/-! ### Requests and the images (R151, R153, R157, R158) -/

theorem State.imagesOk_congr {s t : State} (himages : t.images = s.images) (h : s.imagesOk) : t.imagesOk := by
  rwa [State.imagesOk, himages]

/-- What an answered request leaves of the images keeps them valid while no commit is READY. -/
theorem State.imagesOk_of_answeredFrom {s t : State} (h : s.imagesOk) (hcommit : s.images.commit.state ≠ .ready)
    (hfrom : s.images.answeredFrom t.images) : t.imagesOk := by
  obtain ⟨hactive, hlive, -, hpending⟩ := h
  obtain ⟨hkept, hsame, -, hwrites⟩ := hfrom
  refine ⟨hkept ▸ hactive, ?_, fun hready => absurd (hsame ▸ hready) hcommit, ?_⟩
  · rw [hkept]
    rcases hwrites with heq | ⟨hvalid, -⟩
    · rwa [heq]
    · exact hvalid
  · rcases hwrites with heq | ⟨-, f, v, hf, heq⟩
    · rwa [heq]
    · rw [heq]
      intro p hp
      rcases List.mem_append.mp hp with hp | hp
      · exact hpending p hp
      · rw [List.mem_singleton.mp hp]
        exact hf

theorem State.performKind_imagesOk {s : State} (h : s.imagesOk) (hcommit : s.images.commit.state = .none) (q : Request) :
    (s.performKind q).imagesOk := by
  have hnot : s.images.commit.state ≠ .ready := by rw [hcommit]; decide
  rcases s.performKind_cases q with ⟨images, p, hfrom, heq⟩ | heq | ⟨-, -, heq⟩ | ⟨-, w, n, heq⟩
  · exact State.imagesOk_of_answeredFrom h hnot (heq ▸ hfrom)
  · rwa [heq]
  · obtain ⟨hactive, hlive, -, hpending⟩ := h
    rw [heq]
    exact ⟨hactive, hlive, fun hready => by simp at hready, hpending⟩
  · rw [heq]
    exact h

/-- A request that becomes the head is performed while no commit and no write goes on: what it makes of a state `P` speaks
of is what its performance makes of it (R161, R163). -/
theorem State.handOver_keeps {P : State → Prop} (hservice : ∀ {s : State} (v : Service), P s → P (s.withService v))
    (hperform : ∀ {s : State} (q : Request), s.images.commit.state = .none → P s → P (s.performKind q)) {s : State}
    (hok : s.serviceOk) (h : P s) (q : Request) : P (s.handOver q) := by
  rcases s.handOver_cases q with ⟨-, hqueue, heq⟩ | ⟨-, -, heq⟩ | ⟨-, heq⟩
  · obtain ⟨hcommit, -⟩ := hok.2.free (State.not_headWaits_of_queue hqueue)
    rw [heq]
    exact hperform q hcommit (hservice _ (hservice _ h))
  · rw [heq]
    exact hservice _ h
  · rw [heq]
    exact hservice _ h

/-- The same of the entry that follows a head whose response has gone up (R161). -/
theorem State.advanceQueue_keeps {P : State → Prop} (hservice : ∀ {s : State} (v : Service), P s → P (s.withService v))
    (hperform : ∀ {s : State} (q : Request), s.images.commit.state = .none → P s → P (s.performKind q)) {s : State}
    (hcommit : s.images.commit.state = .none) (h : P s) : P s.advanceQueue := by
  unfold State.advanceQueue State.performHead
  split
  · exact hservice _ (hservice _ h)
  · exact hperform _ hcommit (hservice _ (hservice _ h))

/-- While a response goes up no commit holds the head (R161, R163). -/
theorem State.serviceOk.commit_none_of_answered {s : State} (h : s.serviceOk) {f : SentFeedback}
    (hsending : s.cellPort.sending = some f) (hcarries : f.carries = true) : s.images.commit.state = .none := by
  obtain ⟨⟨-, -, -, hsent⟩, hheld⟩ := h
  have hanswered := hsent.mpr ⟨f, hsending, hcarries⟩
  exact (hheld.free (State.not_headWaits_of_progress (by rw [hanswered]; decide))).1

/-! ### The end of a check and the start of a computation (R154, R155, R157) -/

/-- Staging is READY only where it passes every check (R154). -/
theorem State.endCheck_imagesOk {s : State} (h : s.imagesOk) : s.endCheck.imagesOk := by
  obtain ⟨hactive, hlive, -, hpending⟩ := h
  have hended : ∀ f, ((s.withCheck .none).answerHead f).imagesOk := fun f => by
    refine State.imagesOk_congr (s := s.withCheck .none) (by simp) ⟨hactive, hlive, fun hready => ?_, hpending⟩
    simp [State.withCheck] at hready
  unfold State.endCheck
  dsimp only
  split
  · exact hended _
  · split
    · exact hended _
    case h_2 hvalid => exact ⟨hactive, hlive, fun _ => Option.isNone_iff_eq_none.mpr hvalid, hpending⟩

theorem State.checkEnds_imagesOk {s : State} (h : s.imagesOk) : s.checkEnds.imagesOk := by
  unfold State.checkEnds
  split
  · exact State.endCheck_imagesOk h
  · exact h

theorem State.endWrite_images (s : State) (w : CalibrationWrite) :
    (s.endWrite w).images = { s.images with writing := none, calibrationValid := true } := by
  simp [State.endWrite]

theorem State.writeEnds_imagesOk {s : State} (h : s.imagesOk) : s.writeEnds.imagesOk := by
  unfold State.writeEnds
  split
  · split
    · rw [State.imagesOk, State.endWrite_images]
      exact h
    · exact h
  · exact h

theorem State.countCheck_imagesOk {s : State} (h : s.imagesOk) : s.countCheck.imagesOk := by
  unfold State.countCheck
  dsimp only
  split
  · split
    · exact State.endCheck_imagesOk h
    · exact h
  · exact h

/-- Active takes the pending live writes, and then Staging where a commit is READY (R155, R157). -/
theorem State.startWork_imagesOk {s : State} (h : s.imagesOk) (start : CycleStart) : (s.startWork start).imagesOk := by
  have hbegun : (s.beginCycle start).imagesOk := by
    obtain ⟨-, -, hready, -⟩ := State.countCheck_imagesOk h
    obtain ⟨-, hlive, -, -⟩ := h
    have himages := s.beginCycle_images start
    rw [s.countCheck_images] at hready
    rw [State.imagesOk, himages]
    exact ⟨hlive, hlive, hready, fun p hp => by simp at hp⟩
  have hpending : (s.beginCycle start).images.pendingLive = [] := by rw [State.beginCycle_images]
  refine State.imagesOk_congr (State.startWork_images s start) ?_
  unfold State.commitCopy
  split
  case isTrue hready =>
    have hvalid := hbegun.2.2.1 hready
    refine State.imagesOk_congr (s := (s.beginCycle start).withImages { (s.beginCycle start).images with
      active := (s.beginCycle start).images.staging
      commit := { (s.beginCycle start).images.commit with state := .none } }) (by simp) ⟨hvalid, ?_, ?_, hbegun.2.2.2⟩
    · simpa [hpending, applyLive] using hvalid
    · intro hnone
      simp at hnone
  case isFalse => exact hbegun

/-! ### Every step -/

/-- The queue is in order with its head held, and the images are valid (R148, R160 to R163). -/
def State.storesOk (s : State) : Prop := s.serviceOk ∧ s.imagesOk

theorem storesOk_kept : KeptByChanges State.storesOk where
  alike same h := ⟨serviceOk_kept.alike same h.1, State.imagesOk_congr same.images h.2⟩
  occurrence k c h := ⟨serviceOk_kept.occurrence k c h.1, State.imagesOk_congr (by simp) h.2⟩
  setupLine b h := ⟨serviceOk_kept.setupLine b h.1, h.2⟩
  resetBlocks s := by
    have hvalid := loadedImage_valid s.survivingStore
    refine ⟨serviceOk_kept.resetBlocks s, hvalid, hvalid, fun hready => ?_, fun p hp => ?_⟩
    · simp [State.resetBlocks, ImageStore.reset, Commit.reset] at hready
    · simp [State.resetBlocks, ImageStore.reset] at hp
  checkEnds h := ⟨serviceOk_kept.checkEnds h.1, State.checkEnds_imagesOk h.2⟩
  writeEnds h := ⟨serviceOk_kept.writeEnds h.1, State.writeEnds_imagesOk h.2⟩
  handOver q h := ⟨serviceOk_kept.handOver q h.1,
    State.handOver_keeps (fun _ h => h) (fun q hc h => State.performKind_imagesOk h hc q) h.1 h.2 q⟩
  sendPlain b hfree h := ⟨serviceOk_kept.sendPlain b hfree h.1, h.2⟩
  sendAnswer b hfree hperformed h := ⟨serviceOk_kept.sendAnswer b hfree hperformed h.1, h.2⟩
  sentPlain hsending hplain h := ⟨serviceOk_kept.sentPlain hsending hplain h.1, h.2⟩
  sentAnswer hsending hcarries h := ⟨serviceOk_kept.sentAnswer hsending hcarries h.1,
    State.advanceQueue_keeps (fun _ h => h) (fun q hc h => State.performKind_imagesOk h hc q)
      (h.1.commit_none_of_answered hsending hcarries) h.2⟩
  startCycle start h := ⟨serviceOk_kept.startCycle start h.1,
    State.imagesOk_congr (State.startCycle_images _ start) (State.startWork_imagesOk h.2 start)⟩
  couplingStage h := ⟨serviceOk_kept.couplingStage h.1, State.imagesOk_congr (by simp) h.2⟩

end Sys2Proof.Machine
end

section
/-! Engage steps and coupling torques stay within their bounds (R41, R44, R46, R48, R55). -/

namespace Sys2Proof.Machine

/-! ### The two bounds, for one group and for one roller -/

/-- The step and the marker of a group fit its state (R41, R54, R55, R58). -/
def GroupCoupling.stepOk (c : GroupCoupling) (img : Image) (g : Chan) : Prop :=
  (c.state.atRest = false → img.isCouplingGroup g = true ∧ 1 ≤ c.step ∧ c.step ≤ img.engageCycles g) ∧
  (c.state = .coupled → c.step = img.engageCycles g) ∧
  (c.state.atRest = true → c.step = 1 ∧ c.suspend = false)

/-- A roller's coupling torque and accumulated error lie within the bounds its group's state gives (R44, R48). -/
def RollerTorque.bounded (t : RollerTorque) (img : Image) (g r : Chan) (c : GroupCoupling) : Prop :=
  |t.qOut| ≤ authority img g r c ∧ |t.a| ≤ img.alim g ∧ (c.state.atRest = true → t.qOut = 0 ∧ t.a = 0)

theorem State.stepsOk_iff (s : State) : s.stepsOk ↔ ∀ g, (s.coupling.get g).stepOk s.active g := Iff.rfl

theorem State.torqueOk_iff (s : State) :
    s.torqueOk ↔ ∀ r g, s.active.groupOf r = some g → (s.torque.get r).bounded s.active g r (s.coupling.get g) := Iff.rfl

theorem Image.alim_nonneg (img : Image) (g : Chan) : 0 ≤ img.alim g := Int.natCast_nonneg _

/-- No torque and no error lie within any bounds. -/
theorem RollerTorque.bounded_of_zero {t : RollerTorque} (hq : t.qOut = 0) (ha : t.a = 0) (img : Image) (g r : Chan)
    (c : GroupCoupling) : t.bounded img g r c := by
  refine ⟨?_, ?_, fun _ => ⟨hq, ha⟩⟩
  · rw [hq, abs_zero]
    exact Int.natCast_nonneg _
  · rw [ha, abs_zero]
    exact img.alim_nonneg g

/-- A torque stays within its bounds when its group's state changes to one that gives no narrower ones. -/
theorem RollerTorque.bounded.mono {t : RollerTorque} {img : Image} {g r : Chan} {c c' : GroupCoupling}
    (h : t.bounded img g r c) (hauthority : authority img g r c ≤ authority img g r c')
    (hrest : c'.state.atRest = true → c.state.atRest = true) : t.bounded img g r c' := by
  obtain ⟨hq, ha, hzero⟩ := h
  exact ⟨hq.trans (by exact_mod_cast hauthority), ha, fun hr => hzero (hrest hr)⟩

/-- Only the torque and the error are bounded. -/
theorem RollerTorque.bounded_congr {t t' : RollerTorque} (hq : t'.qOut = t.qOut) (ha : t'.a = t.a) {img : Image}
    {g r : Chan} {c : GroupCoupling} (h : t.bounded img g r c) : t'.bounded img g r c := by
  rwa [RollerTorque.bounded, hq, ha]

/-! ### Changes of a group's state -/

section
variable {c : GroupCoupling} {img : Image} {g : Chan} (h : c.stepOk img g)
include h

/-- A group that is not at rest has an engage cycle at least. -/
theorem GroupCoupling.stepOk.cycles_pos (hactive : c.state.atRest = false) : 0 < img.engageCycles g := by
  obtain ⟨-, hone, hle⟩ := h.1 hactive
  omega

/-- At the last engage step the whole authority is given (R46). -/
theorem GroupCoupling.stepOk.authority_of_last (hactive : c.state.atRest = false) (hlast : c.step = img.engageCycles g)
    (r : Chan) : img.qlim r * c.step / img.engageCycles g = img.qlim r := by
  rw [hlast, Nat.mul_div_cancel _ (h.cycles_pos hactive)]

/-- A group that starts its release, by a RELEASE or by a rise of its level, keeps its step and its authority (R46, R56,
R57). -/
theorem GroupCoupling.stepOk.releasing (hcouples : c.state.couples = true) (suspend : Bool) :
    ({ c with state := .releasing, suspend := suspend } : GroupCoupling).stepOk img g ∧
    ∀ r, authority img g r { c with state := .releasing, suspend := suspend } = authority img g r c := by
  obtain ⟨state, step, marker⟩ := c
  cases state with
  | engaging => exact ⟨⟨fun _ => h.1 rfl, nofun, nofun⟩, fun r => rfl⟩
  | coupled =>
    exact ⟨⟨fun _ => h.1 rfl, nofun, nofun⟩, h.authority_of_last rfl (h.2.1 rfl)⟩
  | releasing => cases hcouples
  | detached => cases hcouples
  | suspended => cases hcouples

/-- A change of level keeps the bounds (R57). -/
theorem GroupCoupling.stepOk.onLevel (old new : Level) :
    (c.onLevel old new).stepOk img g ∧ (∀ r, authority img g r (c.onLevel old new) = authority img g r c) ∧
    ((c.onLevel old new).state.atRest = true → c.state.atRest = true) := by
  unfold GroupCoupling.onLevel
  split
  · obtain ⟨state, step, marker⟩ := c
    cases state with
    | engaging =>
      obtain ⟨hstep, hauthority⟩ := h.releasing rfl true
      exact ⟨hstep, hauthority, nofun⟩
    | coupled =>
      obtain ⟨hstep, hauthority⟩ := h.releasing rfl true
      exact ⟨hstep, hauthority, nofun⟩
    | releasing => exact ⟨⟨h.1, nofun, nofun⟩, fun r => rfl, nofun⟩
    | detached => exact ⟨h, fun r => rfl, id⟩
    | suspended => exact ⟨h, fun r => rfl, id⟩
  · exact ⟨h, fun r => rfl, id⟩

end

/-! ### The settling of one roller (R44 to R51) -/

theorem abs_clamp_le {b : Int} (hb : 0 ≤ b) (x : Int) : |clamp (-b) b x| ≤ b :=
  abs_le.mpr (clamp_within (by omega) x)

theorem abs_accumulate_le {t : RollerTorque} {alim : Int} (h : |t.a| ≤ alim) (hb : 0 ≤ alim) (e : Int) :
    |accumulate t e alim| ≤ alim := by
  unfold accumulate
  split
  · exact h
  · exact abs_clamp_le hb _

theorem Image.releaseStep_nonneg (img : Image) (g : Chan) : 0 ≤ img.releaseStep g := Int.natCast_nonneg _

section
variable {t : RollerTorque} {img : Image} {g r : Chan} {c : GroupCoupling} (h : t.bounded img g r c)
include h

theorem RollerTorque.bounded.couple (hactive : c.state.atRest = false) (e : Int) :
    (t.couple img g r e (authority img g r c)).bounded img g r c :=
  ⟨abs_clamp_le (Int.natCast_nonneg _) _, abs_accumulate_le h.2.1 (img.alim_nonneg g) e, fun hr => by
    rw [hactive] at hr; cases hr⟩

theorem RollerTorque.bounded.releaseRamp (hactive : c.state.atRest = false) (qeff : Nat) :
    (t.releaseRamp (img.releaseStep g) qeff).bounded img g r c :=
  ⟨(rampStep_magnitude (img.releaseStep_nonneg g) _).trans h.1, h.2.1, fun hr => by rw [hactive] at hr; cases hr⟩

theorem RollerTorque.bounded.rampOut (hactive : c.state.atRest = false) (qeff : Nat) :
    (t.rampOut (img.releaseStep g) qeff).bounded img g r c := by
  refine ⟨(rampStep_magnitude (img.releaseStep_nonneg g) _).trans h.1, ?_, fun hr => by rw [hactive] at hr; cases hr⟩
  unfold RollerTorque.rampOut
  dsimp only
  split
  · rw [abs_zero]
    exact img.alim_nonneg g
  · exact h.2.1

/-- Every row of R43 leaves the torque within the bounds of the group's state. -/
theorem RollerTorque.bounded.settle (ref : RollerReference) : (t.settle img g r c ref).bounded img g r c := by
  unfold RollerTorque.settle
  split
  · exact RollerTorque.bounded_of_zero rfl rfl img g r c
  · split
    · exact RollerTorque.bounded_of_zero rfl rfl img g r c
    · exact RollerTorque.bounded_of_zero rfl rfl img g r c
    case h_3 hstate =>
      have hactive : c.state.atRest = false := by rw [hstate]; rfl
      split
      · exact h.releaseRamp hactive _
      · exact h.rampOut hactive _
    case h_4 hstate =>
      have hactive : c.state.atRest = false := by rw [hstate]; rfl
      split
      · exact h.couple hactive _
      · exact h.rampOut hactive _
    case h_5 hstate =>
      have hactive : c.state.atRest = false := by rw [hstate]; rfl
      split
      · exact h.couple hactive _
      · exact h.rampOut hactive _

end

/-! ### Images that give the same bounds (R145, R147, R155, R157) -/

/-- Two images with the same groups, authorities, error limits and engage cycles. -/
structure Image.BoundsLike (img img' : Image) : Prop where
  groupOf : ∀ r, img'.groupOf r = img.groupOf r
  qlim : ∀ r, img'.qlim r = img.qlim r
  alim : ∀ g, img'.alim g = img.alim g
  engageCycles : ∀ g, img'.engageCycles g = img.engageCycles g

theorem Image.BoundsLike.isCouplingGroup {img img' : Image} (h : img.BoundsLike img') (g : Chan) :
    img'.isCouplingGroup g = img.isCouplingGroup g := by
  have hmembers : img'.members g = img.members g :=
    List.filter_congr fun r _ => by rw [Image.isMember, Image.isMember, h.groupOf]
  rw [Image.isCouplingGroup, Image.isCouplingGroup, hmembers]

theorem Image.BoundsLike.stepOk {img img' : Image} (h : img.BoundsLike img') {c : GroupCoupling} {g : Chan}
    (hc : c.stepOk img g) : c.stepOk img' g := by
  rwa [GroupCoupling.stepOk, h.isCouplingGroup, h.engageCycles]

theorem Image.BoundsLike.bounded {img img' : Image} (h : img.BoundsLike img') {t : RollerTorque} {g r : Chan}
    {c : GroupCoupling} (ht : t.bounded img g r c) : t.bounded img' g r c := by
  have hauthority : authority img' g r c = authority img g r c := by simp only [authority, h.qlim, h.engageCycles]
  rwa [RollerTorque.bounded, hauthority, h.alim]

/-- No field that bounds the coupling is live (R145). -/
theorem applyLive_boundsLike (img : Image) {writes : List LiveValue} (h : ∀ p ∈ writes, isLive p.index = true) :
    img.BoundsLike (applyLive img writes) := by
  have hfield : ∀ i, i < 254 → isLive i = false → (applyLive img writes).field i = img.field i := fun i hi hlive => by
    have hnone : (writes.filter fun p => p.index == i) = [] :=
      List.filter_eq_nil_iff.mpr fun p hp heq => by
        rw [← (beq_iff_eq.mp heq), h p hp] at hlive
        cases hlive
    rw [applyLive_field _ _ hi, hnone]
    rfl
  have hroller : ∀ r o, o < 15 → (applyLive img writes).roller r o = img.roller r o := fun r o ho =>
    hfield _ (by omega) (by simp [isLive]; omega)
  have hgroup : ∀ g o, o = 2 ∨ o = 3 → (applyLive img writes).group g o = img.group g o := fun g o ho =>
    hfield _ (by omega) (by simp [isLive]; omega)
  refine ⟨fun r => ?_, fun r => ?_, fun g => ?_, fun g => ?_⟩
  · simp only [Image.groupOf, hroller r 0 (by decide)]
  · rw [Image.qlim, Image.qlim, hroller r 11 (by decide)]
  · rw [Image.alim, Image.alim, hgroup g 2 (.inl rfl)]
  · rw [Image.engageCycles, Image.engageCycles, hgroup g 3 (.inr rfl)]

/-- Every roller of a valid image belongs to a group (R147). -/
theorem Image.exists_groupOf_of_valid {img : Image} (h : img.valid = true) (r : Chan) : ∃ g, img.groupOf r = some g := by
  have hfails := (Image.valid_iff img).mp h (10 + 15 * r.val) (by omega)
  have hindex : Fin.ofNat 4 ((10 + 15 * r.val - 10) / 15) = r ∧ (10 + 15 * r.val - 10) % 15 = 0 := by
    fin_cases r <;> decide
  rw [fieldFails, if_neg (by omega), if_pos (by omega), hindex.1, hindex.2] at hfails
  simp only [rollerFails, within, Bool.not_eq_false', Bool.and_eq_true, decide_eq_true_eq] at hfails
  exact ⟨_, dif_pos (by omega)⟩

/-- Every coupling group of a valid image has an engage cycle at least (R147). -/
theorem Image.engageCycles_pos_of_valid {img : Image} (h : img.valid = true) {g : Chan}
    (hg : img.isCouplingGroup g = true) : 1 ≤ img.engageCycles g := by
  have hfails := (Image.valid_iff img).mp h (73 + 10 * g.val) (by omega)
  have hindex : Fin.ofNat 4 ((73 + 10 * g.val - 70) / 10) = g ∧ (73 + 10 * g.val - 70) % 10 = 3 := by
    fin_cases g <;> decide
  rw [fieldFails, if_neg (by omega), if_neg (by omega), if_pos (by omega), hindex.1, hindex.2, groupFails, hg,
    Bool.true_and] at hfails
  simp only [within, Bool.not_eq_false', Bool.and_eq_true, decide_eq_true_eq] at hfails
  exact hfails.1

/-! ### The two invariants together -/

/-- The steps fit the group states, and with `p` the torques lie within their bounds. -/
def State.couplingBounded (p : Prop) (s : State) : Prop := s.stepsOk ∧ (p → s.torqueOk)

theorem State.couplingBounded.step {p : Prop} {s : State} (h : s.couplingBounded p) (g : Chan) :
    (s.coupling.get g).stepOk s.active g := s.stepsOk_iff.mp h.1 g

theorem State.couplingBounded.torque {p : Prop} {s : State} (h : s.couplingBounded p) (hp : p) {g r : Chan}
    (hg : s.active.groupOf r = some g) : (s.torque.get r).bounded s.active g r (s.coupling.get g) :=
  s.torqueOk_iff.mp (h.2 hp) r g hg

/-- The bounds are kept where every group's state changes to one that gives no narrower ones. -/
theorem State.couplingBounded_of_moves {p : Prop} {s t : State} (h : s.couplingBounded p)
    (himages : s.active.BoundsLike t.active)
    (htorque : ∀ r, (t.torque.get r).qOut = (s.torque.get r).qOut ∧ (t.torque.get r).a = (s.torque.get r).a)
    (hmoves : ∀ g, (t.coupling.get g).stepOk s.active g ∧
      (∀ r, authority s.active g r (t.coupling.get g) = authority s.active g r (s.coupling.get g)) ∧
      ((t.coupling.get g).state.atRest = true → (s.coupling.get g).state.atRest = true)) : t.couplingBounded p := by
  refine ⟨fun g => himages.stepOk (hmoves g).1, fun hp r g hg => himages.bounded ?_⟩
  obtain ⟨-, hauthority, hrest⟩ := hmoves g
  rw [himages.groupOf] at hg
  exact RollerTorque.bounded_congr (htorque r).1 (htorque r).2 ((h.torque hp hg).mono (hauthority r).ge hrest)

/-- The bounds are kept where neither the group states nor what bounds them changes. -/
theorem State.couplingBounded_congr {p : Prop} {s t : State} (h : s.couplingBounded p)
    (himages : s.active.BoundsLike t.active) (hcoupling : t.coupling = s.coupling)
    (htorque : ∀ r, (t.torque.get r).qOut = (s.torque.get r).qOut ∧ (t.torque.get r).a = (s.torque.get r).a) :
    t.couplingBounded p :=
  State.couplingBounded_of_moves h himages htorque fun g => by
    rw [hcoupling]
    exact ⟨h.step g, fun _ => rfl, id⟩

theorem Image.BoundsLike.of_eq {img img' : Image} (h : img' = img) : img.BoundsLike img' := by
  subst h
  exact ⟨fun _ => rfl, fun _ => rfl, fun _ => rfl, fun _ => rfl⟩

end Sys2Proof.Machine
end

section
/-! Every step keeps the engage steps and the coupling torques within their bounds (R41, R44, R48, R54 to R59). -/

namespace Sys2Proof.Machine

/-! ### Group functions (R54, R56, R59, R102) -/

section
variable {p : Prop} {s : State} {w : Word} {g : Chan}

/-- A group that an ENGAGE takes to ENGAGING is a coupling group (R54). -/
theorem State.isCouplingGroup_of_engaged (h : s.performs w (.engage g) = true) : s.active.isCouplingGroup g = true := by
  simp only [State.performs, State.passes, Bool.and_eq_true] at h
  obtain ⟨-, ⟨-, hmembers⟩, -⟩ := h
  have htwo := ((s.engageHasMembers_iff g).mp hmembers).1
  exact decide_eq_true (htwo.trans (List.length_filter_le _ _))

theorem State.couples_of_released (h : s.performs w (.release g) = true) : (s.coupling.get g).state.couples = true := by
  simp only [State.performs, State.passes, Bool.and_eq_true] at h
  exact h.2.1

theorem State.steered_stepOk (hvalid : s.active.valid = true) (h : (s.coupling.get g).stepOk s.active g) :
    (s.steered w g).stepOk s.active g := by
  unfold State.steered
  split
  case isTrue hengage =>
    have hgroup := State.isCouplingGroup_of_engaged hengage
    exact ⟨fun _ => ⟨hgroup, le_rfl, Image.engageCycles_pos_of_valid hvalid hgroup⟩, nofun, nofun⟩
  · split
    case isTrue hrelease => exact (h.releasing (State.couples_of_released hrelease) false).1
    · exact h

/-- ENGAGE starts its members from no torque, and RELEASE leaves the authority as it was (R54, R56). -/
theorem State.steerGroups_bounded (hvalid : s.active.valid = true) (h : s.couplingBounded p) (w : Word) :
    (s.steerGroups w).couplingBounded p := by
  have hactive : (s.steerGroups w).active = s.active := State.active_eq (by simp)
  have hcoupling : ∀ g, (s.steerGroups w).coupling.get g = s.steered w g := fun g => by simp [State.steerGroups]
  refine ⟨fun g => ?_, fun hp r g hg => ?_⟩
  · rw [hactive, hcoupling]
    exact State.steered_stepOk hvalid (h.step g)
  · rw [hactive] at hg ⊢
    have htest : s.groupTest (fun g => s.performs w (.engage g)) r = s.performs w (.engage g) := by
      simp [State.groupTest, hg]
    have htorque : (s.steerGroups w).torque.get r =
        if s.performs w (.engage g) then (s.torque.get r).engaged else s.torque.get r := by
      simp [State.steerGroups, htest]
    have hbounded := h.torque hp hg
    rw [hcoupling, htorque]
    split
    case isTrue => exact RollerTorque.bounded_of_zero rfl rfl _ _ _ _
    case isFalse hengage =>
      rw [State.steered, if_neg hengage]
      split
      case isTrue hrelease =>
        have hcouples := State.couples_of_released hrelease
        exact hbounded.mono (((h.step g).releasing hcouples false).2 r).ge nofun
      case isFalse => exact hbounded

theorem State.setLevels_bounded (h : s.couplingBounded p) (levels : Quad Level) :
    (s.setLevels levels).couplingBounded p :=
  State.couplingBounded_of_moves h (.of_eq (State.active_eq (by simp))) (by simp) fun g => by
    rw [State.setLevels_coupling]
    exact (h.step g).onLevel _ _

theorem State.detachCleared_bounded (h : s.couplingBounded p) (w : Word) : (s.detachCleared w).couplingBounded p := by
  refine State.couplingBounded_of_moves h (.of_eq (State.active_eq (by simp))) (by simp) fun g => ?_
  have hstep := h.step g
  simp only [State.detachCleared, State.withCoupling_coupling, Quad.get_ofFn]
  split
  case isTrue hdetaches =>
    simp only [Bool.and_eq_true, beq_iff_eq] at hdetaches
    obtain ⟨⟨-, hstate⟩, -⟩ := hdetaches
    have hrest : (s.coupling.get g).state.atRest = true := by rw [hstate]; rfl
    exact ⟨⟨nofun, nofun, fun _ => hstep.2.2 hrest⟩, fun r => by simp [authority, hstate], fun _ => hrest⟩
  case isFalse => exact ⟨hstep, fun _ => rfl, id⟩

theorem State.performSet_bounded (hvalid : s.active.valid = true) (h : s.couplingBounded p) (w : Word) :
    (s.performSet w).couplingBounded p := by
  have hcleared : ((s.steerGroups w).clearFaults w).couplingBounded p := by
    unfold State.clearFaults
    split
    · exact State.detachCleared_bounded (State.setLevels_bounded (State.steerGroups_bounded hvalid h w) _) w
    · exact State.steerGroups_bounded hvalid h w
  exact State.couplingBounded_congr hcleared (.of_eq (State.active_eq (by simp))) (by simp [State.performSet])
    (by simp [State.performSet])

end

/-! ### The start of a computation (R53, R155, R157) -/

section
variable {p : Prop} {s : State}

/-- With every group at rest no torque is given, so no image narrows a bound (R44, R48, R155). -/
theorem State.couplingBounded_of_rest {t : State} (h : s.couplingBounded p) (hvalid : s.active.valid = true)
    (hrest : s.allAtRest = true) (hcoupling : t.coupling = s.coupling) (htorque : t.torque = s.torque) :
    t.couplingBounded p := by
  rw [State.allAtRest_iff] at hrest
  refine ⟨fun g => ?_, fun hp r g _ => ?_⟩
  · have hstep := (h.step g).2.2 (hrest g)
    rw [hcoupling]
    refine ⟨fun hactive => ?_, fun hcoupled => ?_, fun _ => hstep⟩
    · rw [hrest g] at hactive; cases hactive
    · have hr := hrest g
      rw [hcoupled] at hr
      cases hr
  · obtain ⟨g', hg'⟩ := Image.exists_groupOf_of_valid hvalid r
    obtain ⟨-, -, hzero⟩ := h.2 hp r g' hg'
    obtain ⟨hq, ha⟩ := hzero (hrest g')
    exact RollerTorque.bounded_of_zero (by rw [htorque, hq]) (by rw [htorque, ha]) _ _ _ _

/-- A commit copy finds every group at rest, and no live write changes a bound (R145, R155, R157). -/
theorem State.startWork_bounded (hok : s.storesOk) (h : s.couplingBounded p) (start : CycleStart) :
    (s.startWork start).couplingBounded p := by
  obtain ⟨hactive, -, -, hlive⟩ := hok.2
  have hcoupling : (s.startWork start).coupling = s.coupling := by simp
  have htorque : (s.startWork start).torque = s.torque := by simp
  by_cases hready : s.countCheck.images.commit.state = .ready
  · obtain ⟨-, hrest⟩ := (State.countCheck_serviceOk hok.1).2.1 (by rw [hready]; decide)
    have hrest' : s.allAtRest = true := by simpa [State.allAtRest] using hrest
    exact State.couplingBounded_of_rest h hactive hrest' hcoupling htorque
  · refine State.couplingBounded_congr h ?_ hcoupling (by simp)
    rw [State.active, State.active, State.startWork_images_of_not_ready start hready]
    exact applyLive_boundsLike _ hlive

theorem State.startCycle_bounded (hok : s.storesOk) (h : s.couplingBounded p) (start : CycleStart) :
    (s.startCycle start).couplingBounded p := by
  have hwork := State.startWork_bounded hok h start
  have hvalid : (s.startWork start).active.valid = true := (State.startWork_imagesOk hok.2 start).1
  unfold State.startCycle State.groupFunctionPoint
  split
  case h_1 q _ _ _ =>
    have hperformed := State.performSet_bounded hvalid hwork (q.dataWord 0)
    split
    · exact State.couplingBounded_congr hperformed (.of_eq (State.active_eq (by simp))) (by simp) (by simp)
    · exact hwork
  · exact hwork

/-! ### The coupling torque stage (R43, R55, R58) -/

/-- A group that goes on gives its members no less authority at its next step (R46, R55). -/
theorem State.advancedGroup_stepOk {g : Chan} (h : (s.coupling.get g).stepOk s.active g) :
    (s.advancedGroup g).stepOk s.active g ∧
    (s.releaseEnds g = false →
      (∀ r, authority s.active g r (s.coupling.get g) ≤ authority s.active g r (s.advancedGroup g)) ∧
      ((s.advancedGroup g).state.atRest = true → (s.coupling.get g).state.atRest = true)) := by
  by_cases hengaging : (s.coupling.get g).state = .engaging
  · have hactive : (s.coupling.get g).state.atRest = false := by rw [hengaging]; rfl
    obtain ⟨hgroup, hone, hle⟩ := h.1 hactive
    cases hpresent : (s.groupRef.get g).present with
    | false =>
      rw [State.advancedGroup_of_absent hengaging hpresent]
      exact ⟨h, fun _ => ⟨fun _ => le_rfl, id⟩⟩
    | true =>
      rcases Nat.lt_or_ge (s.coupling.get g).step (s.active.engageCycles g) with hlt | hge
      · rw [State.advancedGroup_of_step hengaging hpresent hlt]
        refine ⟨⟨fun _ => ⟨hgroup, by simp, hlt⟩, fun hc => ?_, fun hr => ?_⟩, fun _ => ⟨fun r => ?_, id⟩⟩
        · rw [hengaging] at hc; cases hc
        · rw [hactive] at hr; cases hr
        · simp only [authority, hengaging]
          exact Nat.div_le_div_right (Nat.mul_le_mul_left _ (Nat.le_succ _))
      · have hlast := Nat.le_antisymm hle hge
        rw [State.advancedGroup_of_last hengaging hpresent hge]
        refine ⟨⟨fun _ => ⟨hgroup, hone, hle⟩, fun _ => hlast, nofun⟩, fun _ => ⟨fun r => ?_, nofun⟩⟩
        simp only [authority, hengaging]
        exact (h.authority_of_last hactive hlast r).le
  · cases hends : s.releaseEnds g with
    | true =>
      rw [State.advancedGroup_of_ends hends]
      refine ⟨⟨fun hactive => ?_, fun hc => ?_, fun _ => ⟨rfl, rfl⟩⟩, nofun⟩ <;>
        cases hmarker : (s.coupling.get g).suspend <;> simp [hmarker, GroupState.atRest] at *
    | false =>
      rw [State.advancedGroup_of_goesOn hengaging hends]
      exact ⟨h, fun _ => ⟨fun _ => le_rfl, id⟩⟩

theorem State.couplingStage_bounded (h : s.couplingBounded p) : s.couplingStage.couplingBounded p := by
  have hactive : s.couplingStage.active = s.active := State.active_eq (by simp)
  refine ⟨fun g => ?_, fun hp r g hg => ?_⟩
  · rw [hactive, State.couplingStage_coupling]
    exact (State.advancedGroup_stepOk (h.step g)).1
  · rw [hactive] at hg ⊢
    rw [State.couplingStage_coupling, State.couplingStage_torque]
    have hbounded := h.torque hp hg
    have hsettled := hbounded.settle (s.rollerRef.get r)
    rw [← State.settledTorque_of_group hg] at hsettled
    cases hends : s.releaseEnds g with
    | true =>
      have hzero := (State.releaseEnds_iff.mp hends).2 r (Image.mem_members.mpr hg)
      rw [State.nextTorque_of_ends hg hends]
      refine RollerTorque.bounded_of_zero ?_ rfl _ _ _ _
      exact hzero
    | false =>
      obtain ⟨hauthority, hrest⟩ := (State.advancedGroup_stepOk (h.step g)).2 hends
      rw [State.nextTorque_of_goesOn hg hends]
      exact hsettled.mono (hauthority r) hrest

/-! ### Requests and events -/

theorem State.performKind_active (s : State) (q : Request) : (s.performKind q).active = s.active := by
  rcases s.performKind_cases q with ⟨images, r, ⟨hactive, -⟩, heq⟩ | heq | ⟨-, -, heq⟩ | ⟨-, v, n, heq⟩
  · rw [heq]
    exact hactive
  · rw [heq]
  · rw [heq]; rfl
  · rw [heq]; rfl

theorem State.performKind_bounded (q : Request) (h : s.couplingBounded p) : (s.performKind q).couplingBounded p :=
  State.couplingBounded_congr h (.of_eq (s.performKind_active q)) (by simp) (by simp)

theorem State.endCheck_active (s : State) : s.endCheck.active = s.active := by
  obtain ⟨c, -, himages⟩ := s.endCheck_images
  rw [State.active, State.active, himages]

theorem State.checkEnds_bounded (h : s.couplingBounded p) : s.checkEnds.couplingBounded p := by
  unfold State.checkEnds
  split
  · exact State.couplingBounded_congr h (.of_eq s.endCheck_active) (by simp) (by simp)
  · exact h

theorem State.writeEnds_bounded (h : s.couplingBounded p) : s.writeEnds.couplingBounded p := by
  unfold State.writeEnds
  split
  · split
    · refine State.couplingBounded_congr h (.of_eq ?_) (by simp) (by simp)
      rw [State.active, State.active, State.endWrite_images]
    · exact h
  · exact h

end

theorem State.resetBlocks_bounded (p : Prop) (s : State) : s.resetBlocks.couplingBounded p := by
  have hcoupling : ∀ g, s.resetBlocks.coupling.get g = GroupCoupling.reset := fun g => by
    simp [State.resetBlocks, State.reset]
  have htorque : ∀ r, s.resetBlocks.torque.get r = RollerTorque.reset := fun r => by
    simp [State.resetBlocks, State.reset]
  refine ⟨fun g => ?_, fun _ r g _ => ?_⟩
  · rw [hcoupling]
    exact ⟨nofun, nofun, fun _ => ⟨rfl, rfl⟩⟩
  · rw [htorque]
    exact RollerTorque.bounded_of_zero rfl rfl _ _ _ _

/-! ### Every step -/

theorem couplingBounded_kept (p : Prop) : KeptByChanges fun s => s.storesOk ∧ s.couplingBounded p where
  alike same h := ⟨storesOk_kept.alike same h.1, State.couplingBounded_congr h.2
    (.of_eq (State.active_eq same.images)) same.coupling same.torque⟩
  occurrence k c h := by
    refine ⟨storesOk_kept.occurrence k c h.1, State.couplingBounded_of_moves h.2 (.of_eq (State.active_eq (by simp)))
      (by simp) fun g => ?_⟩
    rw [State.occurrence_coupling]
    exact (h.2.step g).onLevel _ _
  setupLine b h := ⟨storesOk_kept.setupLine b h.1, h.2⟩
  resetBlocks s := ⟨storesOk_kept.resetBlocks s, s.resetBlocks_bounded p⟩
  checkEnds h := ⟨storesOk_kept.checkEnds h.1, State.checkEnds_bounded h.2⟩
  writeEnds h := ⟨storesOk_kept.writeEnds h.1, State.writeEnds_bounded h.2⟩
  handOver q h := ⟨storesOk_kept.handOver q h.1,
    State.handOver_keeps (fun _ h => h) (fun q _ h => State.performKind_bounded q h) h.1.1 h.2 q⟩
  sendPlain b hfree h := ⟨storesOk_kept.sendPlain b hfree h.1, h.2⟩
  sendAnswer b hfree hperformed h := ⟨storesOk_kept.sendAnswer b hfree hperformed h.1, h.2⟩
  sentPlain hsending hplain h := ⟨storesOk_kept.sentPlain hsending hplain h.1, h.2⟩
  sentAnswer hsending hcarries h := ⟨storesOk_kept.sentAnswer hsending hcarries h.1,
    State.advanceQueue_keeps (fun _ h => h) (fun q _ h => State.performKind_bounded q h)
      (h.1.1.commit_none_of_answered hsending hcarries) h.2⟩
  startCycle start h := ⟨storesOk_kept.startCycle start h.1, State.startCycle_bounded h.1 h.2 start⟩
  couplingStage h := ⟨storesOk_kept.couplingStage h.1, State.couplingStage_bounded h.2⟩

/-- Settles O11: with the queue, the held head and the images in order, which every step keeps, every elementary change
keeps the steps and, where they lie within their bounds, the torques and errors. -/
theorem stepKeepsEngageAndTorque : Obligations.StepKeepsEngageAndTorque := by
  intro s t hqueue hheld himages hsteps hstep
  have hkept := fun p (h : p → s.torqueOk) =>
    (couplingBounded_kept p).step ⟨⟨⟨hqueue, hheld⟩, himages⟩, hsteps, h⟩ hstep
  exact ⟨(hkept False nofun).2.1, fun htorque => (hkept True fun _ => htorque).2.2 trivial⟩

end Sys2Proof.Machine
end

section
/-! The occurrence of ESTOP (R57, R94, R97, R104, R110). -/

namespace Sys2Proof.Machine

/-! ### A single occurrence (R94, R97, R110) -/

/-- The store after an occurrence, as the statements say it (R94). -/
theorem recordFault_recordsOccurrence (faults : List FaultEntry) (k : FaultKind) (c : Chan) (cycle : Word) :
    recordsOccurrence faults (recordFault faults k c cycle) k c cycle := by
  have hany : faults.any (fun f => f.hasKey k c) = true ↔ ∃ f ∈ faults, f.key = (k, c) := by
    simp only [List.any_eq_true, FaultEntry.hasKey_iff]
  refine ⟨fun hnone => ?_, fun hsome => ?_⟩
  · have hnot : ¬ faults.any (fun f => f.hasKey k c) = true := fun h => by
      obtain ⟨f, hf, hkey⟩ := hany.mp h
      exact hnone f hf hkey
    rw [recordFault, if_neg hnot]
  · rw [recordFault, if_pos (hany.mpr hsome)]
    refine ⟨List.length_map _, fun i f hf => ?_⟩
    rw [List.getElem?_map, hf, Option.map_some]
    by_cases hkey : f.key = (k, c)
    · rw [if_pos ((f.hasKey_iff k c).mpr hkey), if_pos hkey, FaultEntry.again, satInc_eq_min, (Prod.mk.inj hkey).1]
    · rw [if_neg fun h => hkey ((f.hasKey_iff k c).mp h), if_neg hkey]

theorem State.occurrence_afterOffer (s : State) (k : FaultKind) (c : Chan) : afterOffer s k (s.occurrence k c).history := by
  rw [State.occurrence_history]
  refine ⟨fun h => ?_, fun h => if_neg fun ht => h ((s.triggers_iff k).mp ht)⟩
  rw [if_pos ((s.triggers_iff k).mpr h)]
  exact History.afterTrigger_trigger _ _

/-- An occurrence changes the Reaction unit, the group states and the History buffer and nothing else. -/
theorem State.occurrence_only (s : State) (k : FaultKind) (c : Chan) :
    s.occurrence k c = ((s.withReaction (s.occurrence k c).reaction).withCoupling (s.occurrence k c).coupling).withHistory
      (s.occurrence k c).history := by
  have hframe := s.occurrence_frame k c
  generalize s.occurrence k c = t at hframe ⊢
  cases t
  simp only [State.withReaction, State.withCoupling, State.withHistory, State.mk.injEq]
  dsimp only at hframe
  simp [hframe]

/-! ### ESTOP (R91, R104) -/

theorem Level.eq_safe_of_le {l : Level} (h : 4 ≤ l.code) : l = .safe := by
  cases l with
  | safe => rfl
  | none => exact absurd h (by decide)
  | note => exact absurd h (by decide)
  | degrade => exact absurd h (by decide)
  | hold => exact absurd h (by decide)

/-- ESTOP's configured level is SAFE in a valid image (R90, R91). -/
theorem State.configuredLevel_estop {s : State} (h : s.active.valid = true) : s.configuredLevel .estop = .safe :=
  Level.eq_safe_of_le (s.le_configuredLevel h .estop)

theorem Level.max_safe (l : Level) : l.max .safe = .safe := by cases l <;> rfl

/-- The state in which the assertion is taken: the input and the ESTOP cause present (R104). -/
def State.estopTaken (s : State) : State :=
  (s.withEstopInput true).withReaction { s.reaction with estopCause := true }

theorem State.assertEstop_eq {s : State} (halive : s.alive = true) (hcause : s.reaction.estopCause = false) :
    s.assertEstop = s.estopTaken.occurrence .estop 0 := if_pos (by rw [halive, hcause]; rfl)

/-- Settles O19: the assertion is an occurrence of ESTOP, a part-wide kind whose configured level is SAFE. -/
theorem estopAssertEscalatesEveryGroup : Obligations.EstopAssertEscalatesEveryGroup := by
  intro s halive hcause hvalid
  have hlevels : ∀ g, (s.estopTaken.occurrence .estop 0).reaction.levels.get g = .safe := fun g => by
    have happlies : appliesTo s.estopTaken.active .estop 0 g = true := rfl
    rw [State.occurrence_reaction, Quad.get_ofFn, if_pos happlies,
      State.configuredLevel_estop (s := s.estopTaken) hvalid, Level.max_safe]
  have hcoupling : ∀ g, (s.estopTaken.occurrence .estop 0).coupling.get g =
      (s.coupling.get g).onLevel (s.reaction.levels.get g)
        ((s.estopTaken.occurrence .estop 0).reaction.levels.get g) := fun g => by
    rw [State.occurrence_coupling, State.occurrence_reaction, Quad.get_ofFn]
    rfl
  have hexec : exec .estopAssert s = .next (s.estopTaken.occurrence .estop 0) :=
    congrArg Host.Outcome.next (State.assertEstop_eq halive hcause)
  refine ⟨_, _, _, hexec.trans (congrArg _ (s.estopTaken.occurrence_only .estop 0)), ?_, ?_, ?_, ?_, hlevels,
    fun g => ?_, s.estopTaken.occurrence_afterOffer .estop 0⟩
  · rw [State.occurrence_reaction]; rfl
  · rw [State.occurrence_reaction]; rfl
  · rw [State.occurrence_reaction]
    have hpart : ¬ (FaultKind.scopeKind .estop = .roller ∧ s.estopTaken.configuredLevel .estop = .degrade) :=
      fun h => nomatch h.1
    dsimp only
    rw [if_neg hpart]
    rfl
  · rw [State.occurrence_reaction]
    exact recordFault_recordsOccurrence _ _ _ _
  · rw [hcoupling, hlevels]
    exact GroupCoupling.afterLevelChange_onLevel _ _ _

end Sys2Proof.Machine
end

section
/-! A stage that reports the changes of its causes, whatever its causes are (R90 to R99, R110). -/

namespace Sys2Proof.Machine

/-- The reports of a stage from `s` to `u`: each change of a cause of the kinds given (R90). -/
def causeChanges (s u : State) (kinds : List FaultKind) : List Report :=
  channels.flatMap fun r => kinds.flatMap fun k => causeChange k r (s.cause k r) (u.cause k r)

section
variable {s u : State} {kinds : List FaultKind}

theorem mem_causeChanges_occurrence {k : FaultKind} {c : Chan} :
    .occurrence k c ∈ causeChanges s u kinds ↔ k ∈ kinds ∧ s.cause k c = false ∧ u.cause k c = true := by
  simp only [causeChanges, List.mem_flatMap, mem_channels, true_and, mem_causeChange_occurrence]
  constructor
  · rintro ⟨r, k', hk', ⟨rfl, rfl⟩, h⟩
    exact ⟨hk', h⟩
  · exact fun ⟨hk, h⟩ => ⟨c, k, hk, ⟨rfl, rfl⟩, h⟩

theorem mem_causeChanges_ended {k : FaultKind} {c : Chan} :
    .ended k c ∈ causeChanges s u kinds ↔ k ∈ kinds ∧ s.cause k c = true ∧ u.cause k c = false := by
  simp only [causeChanges, List.mem_flatMap, mem_channels, true_and, mem_causeChange_ended]
  constructor
  · rintro ⟨r, k', hk', ⟨rfl, rfl⟩, h⟩
    exact ⟨hk', h⟩
  · exact fun ⟨hk, h⟩ => ⟨c, k, hk, ⟨rfl, rfl⟩, h⟩

/-- Each cause is reported once at most. -/
theorem causeChanges_keys_nodup (hkinds : kinds.Nodup) : ((causeChanges s u kinds).map Report.key).Nodup := by
  have hsub : ((causeChanges s u kinds).map Report.key).Sublist
      (channels.flatMap fun r => kinds.flatMap fun k => [(k, r)]) := by
    simp only [causeChanges, List.map_flatMap]
    exact List.Sublist.flatMap_right _ fun r _ => List.Sublist.flatMap_right _ fun k _ => causeChange_keys_sublist _ _ _ _
  refine hsub.nodup ?_
  have hrow : ∀ r : Chan, (kinds.flatMap fun k => [(k, r)]) = kinds.map fun k => (k, r) := fun r =>
    List.map_eq_flatMap.symm
  simp only [hrow]
  refine List.nodup_flatMap.mpr ⟨fun r _ => hkinds.map fun a b h => (Prod.mk.inj h).1, ?_⟩
  refine List.Pairwise.imp (fun {a b} hne => ?_) (by decide : channels.Pairwise (· ≠ ·))
  intro x hx hy
  obtain ⟨_, _, rfl⟩ := List.mem_map.mp hx
  obtain ⟨_, _, h⟩ := List.mem_map.mp hy
  exact hne (Prod.mk.inj h).2.symm

/-- Reports change no cause. -/
theorem State.takeReports_cause (u : State) (ps : List Report) (k : FaultKind) (c : Chan) :
    (u.takeReports ps).cause k c = u.cause k c := by
  cases k <;> simp [State.cause]

/-- A stage that changes causes of some kinds and reports their changes reports as R90 to R99 and R110 have it. -/
theorem State.reportsCauses_of_changes (hkinds : kinds.Nodup)
    (hu : u.reaction = s.reaction ∧ u.coupling = s.coupling ∧ u.history = s.history ∧ u.timer = s.timer ∧
      u.images = s.images)
    (hother : ∀ k, k ∉ kinds → ∀ c, u.cause k c = s.cause k c) :
    s.reportsCauses (u.takeReports (causeChanges s u kinds)) := by
  obtain ⟨ps, n, hperm, heq⟩ := u.takeReports_eq (causeChanges s u kinds)
  refine State.reportsTo_of_fold (u := u) (ps := ps) ((hperm.map _).nodup_iff.mpr (causeChanges_keys_nodup hkinds)) hu
    (by rw [heq]; exact ⟨rfl, rfl, rfl⟩) (fun k c => ?_) (fun k c => ?_)
  · rw [hperm.mem_iff, mem_causeChanges_occurrence, or_false, State.takeReports_cause]
    refine and_iff_right_of_imp fun ⟨hbefore, hafter⟩ => by_contra fun hk => ?_
    rw [hother k hk, hbefore] at hafter
    cases hafter
  · rw [hperm.mem_iff, mem_causeChanges_ended, State.takeReports_cause]
    refine and_iff_right_of_imp fun ⟨hbefore, hafter⟩ => by_contra fun hk => ?_
    rw [hother k hk, hbefore] at hafter
    cases hafter

end

/-- Reports change the Reaction unit, the group states, the History buffer and the draws and nothing else. -/
theorem State.takeReports_only (u : State) (ps : List Report) :
    u.takeReports ps = (((u.withReaction (u.takeReports ps).reaction).withCoupling (u.takeReports ps).coupling).withHistory
      (u.takeReports ps).history).withDraws (u.takeReports ps).draws := by
  have hframe := u.takeReports_frame ps
  generalize u.takeReports ps = t at hframe ⊢
  cases t
  simp only [State.withReaction, State.withCoupling, State.withHistory, State.withDraws, State.mk.injEq]
  dsimp only at hframe
  simp [hframe]

end Sys2Proof.Machine
end

section
/-! The composition stage: the trimmed and clamped torque, the side of its clamp and the saturation (R48, R65 to R69). -/

namespace Sys2Proof.Machine

/-! ### Whether the range clamp counts (R68, R70, R76) -/

section
variable {s : State} {old : Option Image} {r : Chan}

/-- A commit copy leaves the saturation run (R76). -/
theorem Composer.afterCommit_runCount (c : Composer) (old : Option Image) (img : Image) (r : Chan) :
    (c.afterCommit old img r).runCount = c.runCount := by
  unfold Composer.afterCommit
  cases old with
  | none => rfl
  | some o =>
    cases c.phase with
    | off => rfl
    | return_ => rfl
    | ramp => dsimp only; split <;> rfl
    | atClear => dsimp only; split <;> rfl

/-- The phase of a stage is OFF or RETURN exactly where the level is not SAFE, and the run is as it was (R70). -/
theorem Composer.setPhase_counts (c : Composer) (level : Level) :
    (c.setPhase level).phase.counts = decide (level ≠ .safe) ∧ (c.setPhase level).runCount = c.runCount := by
  obtain ⟨phase, lastWritten, rampStart, composed, runCount, saturation, enable⟩ := c
  by_cases h : level = .safe
  · subst h
    cases phase <;> exact ⟨rfl, rfl⟩
  · rw [decide_eq_true h, Composer.setPhase, if_neg h]
    cases phase <;> exact ⟨rfl, rfl⟩

theorem State.phased_counts (s : State) (old : Option Image) (r : Chan) :
    (s.phased old r).phase.counts = decide (s.levelOfRoller r ≠ .safe) := (Composer.setPhase_counts _ _).1

theorem State.phased_runCount (s : State) (old : Option Image) (r : Chan) :
    (s.phased old r).runCount = (s.composer.get r).runCount :=
  ((Composer.setPhase_counts _ _).2).trans (Composer.afterCommit_runCount _ _ _ _)

theorem clampSide_eq_none_iff (lo hi q : Int) : clampSide lo hi q = .none ↔ ¬ (q < lo ∨ hi < q) := by
  unfold clampSide
  split
  case isTrue h => simp [h]
  case isFalse h =>
    split
    case isTrue h' => simp [h']
    case isFalse h' => simp [h, h']

theorem State.clampCounts_iff (s : State) (old : Option Image) (r : Chan) :
    s.clampCounts old r = true ↔
      s.levelOfRoller r ≠ .safe ∧ (s.trimmedTorque r < s.active.tmin r ∨ s.active.tmax r < s.trimmedTorque r) := by
  have hbite : (s.rangeBite r != .none) = true ↔
      (s.trimmedTorque r < s.active.tmin r ∨ s.active.tmax r < s.trimmedTorque r) := by
    rw [bne_iff_ne, ne_eq, State.rangeBite, clampSide_eq_none_iff, not_not]
  rw [State.clampCounts, State.phased_counts, Bool.and_eq_true, decide_eq_true_eq, hbite]

/-! ### What the stage writes -/

theorem State.compositionStage_composer (s : State) (old : Option Image) (r : Chan) :
    (s.compositionStage old).composer.get r = s.nextComposer old r := by
  simp [State.compositionStage]

theorem State.compositionStage_torque (s : State) (old : Option Image) (r : Chan) :
    (s.compositionStage old).torque.get r = s.clampedTorque old r := by
  simp [State.compositionStage]

/-- The run counts the stages at which the clamp bites without a break (R69). -/
theorem State.nextComposer_runCount (s : State) (old : Option Image) (r : Chan) :
    (s.nextComposer old r).runCount =
      if s.clampCounts old r then min 255 ((s.composer.get r).runCount + 1) else 0 := by
  rw [← State.phased_runCount s old r, ← satInc_eq_min]
  rfl

/-- The side is that of the bite where the clamp counts (R68). -/
theorem State.clampedTorque_rangeSide (s : State) (old : Option Image) (r : Chan) :
    (s.clampedTorque old r).rangeSide = if s.levelOfRoller r ≠ .safe then s.rangeBite r else .none := by
  show (if (s.phased old r).phase.counts then s.rangeBite r else ClampSide.none) = _
  rw [State.phased_counts]
  simp

/-- The state in which the stage takes its reports: every torque composed and clamped. -/
def State.composedState (s : State) (old : Option Image) : State :=
  (s.withComposer (Quad.ofFn (s.nextComposer old))).withTorque (Quad.ofFn (s.clampedTorque old))

/-- The stage's reports are the changes of its TORQUE_SATURATION causes (R69). -/
theorem State.compositionReports_eq (s : State) (old : Option Image) :
    s.compositionReports old = causeChanges s (s.composedState old) [.torqueSaturation] := by
  simp [State.compositionReports, causeChanges, State.cause, State.composedState]

theorem State.composedState_cause (s : State) (old : Option Image) {k : FaultKind} (h : k ∉ [FaultKind.torqueSaturation])
    (c : Chan) : (s.composedState old).cause k c = s.cause k c := by
  cases k with
  | torqueSaturation => exact absurd (List.mem_singleton_self _) h
  | _ => rfl

/-- Settles O42: the record and the torque fields the stage writes, then its reports, which are those of one cause. -/
theorem composedTorqueTrimmedAndClamped : Obligations.ComposedTorqueTrimmedAndClamped := by
  refine ⟨fun s old r held hheld hrange => ?_, fun s old => ⟨?_, ?_⟩⟩
  · intro t T T' level counts bites n q
    have hn : n = s.nextComposer old r := s.compositionStage_composer old r
    have hq : q = s.clampedTorque old r := s.compositionStage_torque old r
    have hslot : s.slotFor r = held.get (slotPosition s.active r) := by simp [State.slotFor, hheld]
    have hT : s.trimmedTorque r = T' := by
      rw [State.trimmedTorque, hslot]
      rfl
    have hlevel : level = s.levelOfRoller r := by
      cases hgroup : s.active.groupOf r <;> simp [level, State.levelOfRoller, hgroup]
    have hcounts : s.clampCounts old r = true ↔ counts ∧ bites := by
      rw [State.clampCounts_iff, hT, ← hlevel]
    have hside : q.rangeSide = if counts then s.rangeBite r else .none := by
      rw [hq, State.clampedTorque_rangeSide, ← hlevel]
    have hbite : s.rangeBite r = clampSide (s.active.tmin r) (s.active.tmax r) T' := by rw [State.rangeBite, hT]
    have hrun : n.runCount = if s.clampCounts old r then min 255 ((s.composer.get r).runCount + 1) else 0 := by
      rw [hn, State.nextComposer_runCount]
    refine ⟨?_, fun hc => ⟨fun h => ?_, fun h => ?_⟩, fun h => ⟨?_, ?_⟩, fun hc hb => ?_, ?_, ?_, ?_, ?_, ?_⟩
    · rw [hn, ← hT, ← clamp_eq hrange]
      rfl
    · rw [hside, if_pos hc, hbite, clampSide_upper h]
    · rw [hside, if_pos hc, hbite, clampSide_lower hrange h]
    · rw [hside]
      split
      case isTrue hc => rw [hbite, clampSide_eq_none_iff]; exact h.resolve_left (not_not.mpr hc)
      case isFalse => rfl
    · rw [hrun, if_neg fun hcl => ?_]
      obtain ⟨hc, hb⟩ := hcounts.mp hcl
      exact h.elim (fun hn => hn hc) fun hn => hn hb
    · rw [hrun, if_pos (hcounts.mpr ⟨hc, hb⟩)]
    · rw [hn]
      rfl
    · rw [hq, ← hcounts]
      simp [State.clampedTorque]
    · rw [hq]; rfl
    · rw [hq]; rfl
    · rw [hq]; rfl
  · rw [State.compositionStage, State.compositionReports_eq]
    exact State.reportsCauses_of_changes (by decide) ⟨rfl, rfl, rfl, rfl, rfl⟩ fun k hk c => s.composedState_cause old hk c
  · have honly := (s.composedState old).takeReports_only (s.compositionReports old)
    have hcomposer : (s.compositionStage old).composer = Quad.ofFn (s.nextComposer old) := by
      simp [State.compositionStage]
    have htorque : (s.compositionStage old).torque = Quad.ofFn (s.clampedTorque old) := by
      simp [State.compositionStage]
    rw [hcomposer, htorque]
    exact honly

end

end Sys2Proof.Machine
end

section
/-! The deviation monitoring stage: blocks of errors, their judgement, and what a fault does to the group (R57, R79 to R86). -/

namespace Sys2Proof.Machine

/-! ### One monitored roller (R81 to R84) -/

section
variable {m : Monitor} {img : Image} {g : Chan} {e a : Int}

/-- An error that does not fill its block is added to it, and the judgement stands (R81). -/
theorem Monitor.observe_of_open (h : m.blockFill + 1 ≠ img.blockLength g) :
    m.observe img g e a =
      { m with
        monitored := true, blockSum := m.blockSum + e, blockFill := m.blockFill + 1
        syncWarn := outside m.latest (img.w1 g), positionFault := decide (img.afault g < |a|) } := by
  have hfills : m.fills (img.blockLength g) = false := beq_false_of_ne h
  simp [Monitor.observe, Monitor.addError, hfills, h]

/-- The persistence count and the SYNC_FAULT cause after a block result (R83). -/
theorem Monitor.judge_of_some {result : Int} (hlatest : m.latest = some result) (w2 : Int) (limit : Nat) :
    m.judge w2 limit =
      if w2 < |result| then
        { m with
          persistence := min 255 (m.persistence + 1)
          syncFault := m.syncFault || decide (limit ≤ min 255 (m.persistence + 1)) }
      else { m with persistence := 0, syncFault := false } := by
  unfold Monitor.judge
  rw [hlatest, satInc_eq_min]
  by_cases hw : w2 < |result|
  · by_cases hl : limit ≤ min 255 (m.persistence + 1) <;> simp [outside, hw, hl]
  · simp [outside, hw]

/-- An error that fills its block gives a result, which is judged, and a new block begins (R81, R83). -/
theorem Monitor.observe_of_full (h : m.blockFill + 1 = img.blockLength g) :
    m.observe img g e a =
      { ({ m with
            blockSum := 0, blockFill := 0
            latest := some (truncDiv (m.blockSum + e) (img.blockLength g)) } : Monitor).judge (img.w2 g)
          (img.persistence g) with
        monitored := true
        syncWarn := outside (some (truncDiv (m.blockSum + e) (img.blockLength g))) (img.w1 g)
        positionFault := decide (img.afault g < |a|) } := by
  have hfills : m.fills (img.blockLength g) = true := beq_iff_eq.mpr h
  simp only [Monitor.observe, Monitor.addError, hfills, if_pos h, if_true]
  rw [Monitor.judge_of_some rfl]
  split <;> rfl

theorem outside_iff (latest : Option Int) (w : Int) : outside latest w = true ↔ ∃ x, latest = some x ∧ w < |x| := by
  cases latest <;> simp [outside]

/-- SYNC_WARN and POSITION_FAULT follow the latest result and the accumulated error (R82, R84). -/
theorem Monitor.observe_causes (m : Monitor) (img : Image) (g : Chan) (e a : Int) :
    (m.observe img g e a).monitored = true ∧
    (m.observe img g e a).syncWarn = outside (m.observe img g e a).latest (img.w1 g) ∧
    (m.observe img g e a).positionFault = decide (img.afault g < |a|) := ⟨rfl, rfl, rfl⟩

end

/-! ### What the stage writes (R80) -/

section
variable {s : State} {r g : Chan}

theorem State.monitoringStage_monitor (s : State) (r : Chan) : s.monitoringStage.monitor.get r = s.nextMonitor r := by
  simp [State.monitoringStage]

theorem State.nextMonitor_of_monitored (hg : s.active.groupOf r = some g) (hcoupled : (s.coupling.get g).state = .coupled)
    (hincluded : (s.rollerRef.get r).included = true) :
    s.nextMonitor r = (s.monitor.get r).observe s.active g (s.rollerRef.get r).e (s.torque.get r).a := by
  simp [State.nextMonitor, State.monitors, hg, hcoupled, hincluded]

/-- The record of a roller that is not included, or whose group is not COUPLED, is cleared (R80). -/
theorem State.nextMonitor_of_other (h : ∀ g, s.active.groupOf r = some g → (s.coupling.get g).state = .coupled →
    (s.rollerRef.get r).included = false) : s.nextMonitor r = Monitor.reset := by
  cases hg : s.active.groupOf r with
  | none => simp [State.nextMonitor, hg]
  | some g =>
    have hnot : s.monitors r = false := by
      by_cases hcoupled : (s.coupling.get g).state = .coupled
      · simp [State.monitors, hg, h g hg hcoupled]
      · simp [State.monitors, hg, hcoupled]
    simp [State.nextMonitor, hg, hnot]

/-! ### The reports of the stage (R80, R82 to R86) -/

/-- The state in which the stage takes its reports: every record judged by the group states at its start (R86). -/
def State.monitoredState (s : State) : State := s.withMonitor (Quad.ofFn s.nextMonitor)

theorem State.monitoringReports_eq (s : State) :
    s.monitoringReports = causeChanges s s.monitoredState [.syncWarn, .syncFault, .positionFault] := by
  simp [State.monitoringReports, causeChanges, State.cause, State.monitoredState]

theorem State.monitoredState_cause (s : State) {k : FaultKind}
    (h : k ∉ [FaultKind.syncWarn, FaultKind.syncFault, FaultKind.positionFault]) (c : Chan) :
    s.monitoredState.cause k c = s.cause k c := by
  cases k with
  | syncWarn => exact absurd (by decide) h
  | syncFault => exact absurd (by decide) h
  | positionFault => exact absurd (by decide) h
  | _ => rfl

theorem State.monitoringStage_reportsCauses (s : State) : s.reportsCauses s.monitoringStage := by
  rw [State.monitoringStage, State.monitoringReports_eq]
  exact State.reportsCauses_of_changes (by decide) ⟨rfl, rfl, rfl, rfl, rfl⟩ fun k hk c => s.monitoredState_cause hk c

/-- A cause configured at HOLD at least that comes for a roller releases its COUPLED group with the marker set (R57). -/
theorem State.reportsCauses.releases {t : State} (h : s.reportsCauses t) {k : FaultKind} (hscope : k.scopeKind = .roller)
    (hlevel : 3 ≤ (s.configuredLevel k).code) (hcomes : s.cause k r = false ∧ t.cause k r = true)
    (hg : s.active.groupOf r = some g) (hcoupled : (s.coupling.get g).state = .coupled)
    (hlow : (s.reaction.levels.get g).code ≤ 2) :
    3 ≤ (t.reaction.levels.get g).code ∧
    t.coupling.get g = { s.coupling.get g with state := .releasing, suspend := true } := by
  have hreports : s.reportsTo t _ := h
  have happlies : appliesTo s.active k r g = true := by simp [appliesTo, hscope, Image.isMember, hg]
  have hreached := hlevel.trans (hreports.le_level hcomes happlies)
  obtain ⟨hrise, -⟩ := hreports.coupling g
  obtain ⟨hrelease, -, -⟩ := hrise ⟨by omega, hreached⟩
  exact ⟨hreached, hrelease (by rw [hcoupled]; rfl)⟩

/-- Settles O44: the record of each roller, the release a fault of the monitor forces, and the stage's reports. -/
theorem monitorAveragesBlocks : Obligations.MonitorAveragesBlocks := by
  refine ⟨fun s r => ?_, fun s r g => ?_, fun s => ⟨s.monitoringStage_reportsCauses, ?_⟩⟩
  · intro m n e
    have hn : n = s.nextMonitor r := s.monitoringStage_monitor r
    refine ⟨fun g hg hcoupled hincluded => ?_, fun h => hn.trans (State.nextMonitor_of_other h)⟩
    intro M w2
    rw [State.nextMonitor_of_monitored hg hcoupled hincluded] at hn
    obtain ⟨hmonitored, hwarn, hposition⟩ := m.observe_causes s.active g e (s.torque.get r).a
    refine ⟨by rw [hn]; exact hmonitored, fun hopen => ?_, fun hfull => ?_, ?_, ?_⟩
    · rw [hn, Monitor.observe_of_open hopen]
      exact ⟨rfl, rfl, rfl, rfl, rfl⟩
    · intro result
      rw [hn, Monitor.observe_of_full hfull, Monitor.judge_of_some rfl]
      by_cases hw : w2 < |result|
      · rw [if_pos hw]
        exact ⟨rfl, rfl, rfl, fun hle => absurd hw (not_lt.mpr hle), fun _ => ⟨rfl, rfl⟩⟩
      · rw [if_neg hw]
        exact ⟨rfl, rfl, rfl, fun _ => ⟨rfl, rfl⟩, fun hlt => absurd hlt hw⟩
    · rw [hn, hwarn]
      exact outside_iff _ _
    · rw [hn, hposition, decide_eq_true_eq]
  · intro m t n hvalid hg hcoupled hlow hcomes
    have hreports := s.monitoringStage_reportsCauses
    rcases hcomes with hcomes | hcomes
    · exact hreports.releases (k := .syncFault) rfl (s.le_configuredLevel hvalid .syncFault) hcomes hg hcoupled hlow
    · exact hreports.releases (k := .positionFault) rfl (s.le_configuredLevel hvalid .positionFault) hcomes hg hcoupled hlow
  · have honly := s.monitoredState.takeReports_only s.monitoringReports
    have hmonitor : s.monitoringStage.monitor = Quad.ofFn s.nextMonitor := by simp [State.monitoringStage]
    rw [hmonitor]
    exact honly

end

end Sys2Proof.Machine
end

section
/-! The functions of a GROUP_CONTROL judged and performed together (R53, R54, R56, R59, R100 to R103, R111, R113, R167,
R168). -/

namespace Sys2Proof.Machine

/-! ### Sets of functions (R167) -/

theorem mask_getLsbD (f : GroupFunction) (i : Nat) : f.mask.getLsbD i = decide (f.bit = i) := by
  have hbit : f.bit < 32 := Nat.lt_trans f.bit_lt (by decide)
  rw [GroupFunction.mask, BitVec.getLsbD_twoPow, decide_eq_true hbit, Bool.true_and]

/-- The bits of a set: those of its functions. -/
theorem setOf_getLsbD (p : GroupFunction → Bool) (i : Nat) :
    (setOf p).getLsbD i = groupFunctions.any fun f => p f && decide (f.bit = i) := by
  have hfold : ∀ (fs : List GroupFunction) (acc : Word),
      (fs.foldl (fun acc f => if p f then acc ||| f.mask else acc) acc).getLsbD i =
        (acc.getLsbD i || fs.any fun f => p f && decide (f.bit = i)) := by
    intro fs
    induction fs with
    | nil => simp
    | cons f fs ih =>
      intro acc
      rw [List.foldl_cons, ih, List.any_cons]
      cases hp : p f
      · simp
      · simp [mask_getLsbD, Bool.or_assoc]
  rw [setOf, hfold]
  simp

theorem mem_groupFunctions (f : GroupFunction) : f ∈ groupFunctions := List.mem_of_getElem? (groupFunctions_bit f)

@[simp] theorem inSet_setOf (p : GroupFunction → Bool) (f : GroupFunction) : inSet (setOf p) f = p f := by
  rw [inSet, setOf_getLsbD, Bool.eq_iff_iff, List.any_eq_true]
  constructor
  · rintro ⟨f', -, h⟩
    simp only [Bool.and_eq_true, decide_eq_true_eq] at h
    exact GroupFunction.bit_injective h.2 ▸ h.1
  · exact fun h => ⟨f, mem_groupFunctions f, by simp [h]⟩

/-- A set has no bit but those of functions, of which each of the low sixteen is one. -/
theorem setOf_getLsbD_of_bit {f : GroupFunction} {i : Nat} (h : f.bit = i) (p : GroupFunction → Bool) :
    (setOf p).getLsbD i = p f := by
  rw [← inSet_setOf p f, inSet, h]

theorem setOf_getLsbD_past {i : Nat} (h : 16 ≤ i) (p : GroupFunction → Bool) : (setOf p).getLsbD i = false := by
  rw [setOf_getLsbD, List.any_eq_false]
  intro f _
  have hbit := f.bit_lt
  simp [show f.bit ≠ i by omega]

theorem exists_function_of_bit {i : Nat} (h : i < 16) : ∃ f : GroupFunction, f.bit = i := by
  have hall : ∀ i : Fin 16, ∃ f ∈ groupFunctions, f.bit = i.val := by decide
  obtain ⟨f, -, hf⟩ := hall ⟨i, h⟩
  exact ⟨f, hf⟩

/-! ### Judging (R53, R167, R168) -/

section
variable (s : State) (w : Word)

/-- A function of the set is performed or rejected, and not both (R168). -/
theorem State.performed_and_rejected : setOf (s.performs w) &&& setOf (s.rejects w) = 0 := by
  ext i hi
  rw [← BitVec.getLsbD_eq_getElem, BitVec.getLsbD_and]
  rcases Nat.lt_or_ge i 16 with hlt | hge
  · obtain ⟨f, hf⟩ := exists_function_of_bit hlt
    rw [setOf_getLsbD_of_bit hf, setOf_getLsbD_of_bit hf, State.performs, State.rejects]
    cases inSet w f <;> cases s.passes w f <;> simp
  · rw [setOf_getLsbD_past hge]
    simp

theorem State.performed_or_rejected : setOf (s.performs w) ||| setOf (s.rejects w) = w &&& 0xFFFF := by
  ext i hi
  rw [← BitVec.getLsbD_eq_getElem, ← BitVec.getLsbD_eq_getElem, BitVec.getLsbD_or, BitVec.getLsbD_and]
  have hmask : (0xFFFF : Word).getLsbD i = decide (i < 16) := by
    have hall : ∀ j : Fin 32, (0xFFFF : Word).getLsbD j.val = decide (j.val < 16) := by decide
    exact hall ⟨i, hi⟩
  rw [hmask]
  rcases Nat.lt_or_ge i 16 with hlt | hge
  · obtain ⟨f, hf⟩ := exists_function_of_bit hlt
    rw [setOf_getLsbD_of_bit hf, setOf_getLsbD_of_bit hf, State.performs, State.rejects, inSet, hf, decide_eq_true hlt]
    cases w.getLsbD i <;> cases s.passes w f <;> rfl
  · rw [setOf_getLsbD_past hge, setOf_getLsbD_past hge, decide_eq_false (not_lt.mpr hge)]
    simp

theorem setOutcome_of_none (performed : Word) : setOutcome performed 0 = .done := if_pos rfl

theorem setOutcome_of_some {performed rejected : Word} (hr : rejected ≠ 0) :
    setOutcome performed rejected = if performed = 0 then .refusedState else .partial_ := if_neg hr

/-- What the response of a GROUP_CONTROL holds (R168). -/
theorem State.setResponse_data (q : Request) :
    (s.setResponse q).data = [setOf (s.performs (q.dataWord 0)), setOf (s.rejects (q.dataWord 0)), 0, s.timer.cycleCount,
      0, 0, 0, 0] := rfl

/-! ### The Fault store and the levels after a set (R100 to R102) -/

theorem clears_iff : clears w = true ↔ inSet w .clearPart = true ∨ ∃ g, inSet w (.clear g) = true := by
  simp [clears]

/-- An entry is removed when its cause is absent and a CLEAR or CLEAR_PART of the set covers it (R100, R101). -/
theorem removable_iff (img : Image) (e : FaultEntry) :
    removable img w e = true ↔ e.causePresent = false ∧
      ((e.kind.scopeKind = .part ∧ inSet w .clearPart = true) ∨
        (e.kind.scopeKind = .group ∧ inSet w (.clear e.scope) = true) ∨
        (e.kind.scopeKind = .roller ∧ ∃ g, img.groupOf e.scope = some g ∧ inSet w (.clear g) = true)) := by
  rw [removable, Bool.and_eq_true, Bool.not_eq_true']
  refine and_congr_right fun _ => ?_
  cases e.kind.scopeKind with
  | part => simp
  | group => simp
  | roller => cases img.groupOf e.scope <;> simp

/-- The entries that a set leaves. -/
def State.keptFaults : List FaultEntry := s.reaction.faults.filter fun f => !removable s.active w f

/-- The levels after a set: worked out again from the entries left, once, where a CLEAR or CLEAR_PART is in it (R102). -/
def State.levelsAfter : Quad Level :=
  if clears w then Quad.ofFn (s.recomputedLevel (s.keptFaults w)) else s.reaction.levels

theorem State.keptFaults_of_not_clears (h : clears w = false) : s.keptFaults w = s.reaction.faults := by
  refine List.filter_eq_self.mpr fun e _ => ?_
  rw [Bool.not_eq_true', Bool.eq_false_iff, ne_eq, removable_iff]
  have hnot : ¬ (inSet w .clearPart = true ∨ ∃ g, inSet w (.clear g) = true) := by
    rw [← clears_iff, h]
    exact Bool.false_ne_true
  rintro ⟨-, ⟨-, hpart⟩ | ⟨-, hgroup⟩ | ⟨-, g, -, hroller⟩⟩
  · exact hnot (.inl hpart)
  · exact hnot (.inr ⟨_, hgroup⟩)
  · exact hnot (.inr ⟨g, hroller⟩)

theorem State.mem_keptFaults (e : FaultEntry) :
    e ∈ s.keptFaults w ↔ e ∈ s.reaction.faults ∧ ¬ removable s.active w e = true := by
  rw [State.keptFaults, List.mem_filter, Bool.not_eq_true', Bool.not_eq_true]

/-- The greatest of the levels of a list of entries (R102). -/
theorem foldl_levelMax_greatest (level : FaultEntry → Level) (faults : List FaultEntry) (start : Level) :
    let greatest := faults.foldl (fun acc f => acc.max (level f)) start
    start.code ≤ greatest.code ∧ (∀ e ∈ faults, (level e).code ≤ greatest.code) ∧
    (greatest = start ∨ ∃ e ∈ faults, level e = greatest) := by
  induction faults generalizing start with
  | nil => simp
  | cons f faults ih =>
    obtain ⟨hstart, hbound, hreached⟩ := ih (start.max (level f))
    rw [Level.code_max] at hstart
    refine ⟨(le_max_left _ _).trans hstart, fun e he => ?_, ?_⟩
    · rcases List.mem_cons.mp he with rfl | he
      · exact (le_max_right _ _).trans hstart
      · exact hbound e he
    · rcases hreached with hsame | ⟨e, he, hlevel⟩
      · rcases Level.max_eq start (level f) with hmax | hmax
        · exact .inl (hsame.trans hmax)
        · exact .inr ⟨f, List.mem_cons_self, (hsame.trans hmax).symm⟩
      · exact .inr ⟨e, List.mem_cons_of_mem _ he, hlevel⟩

theorem State.recomputedLevel_greatest (faults : List FaultEntry) (g : Chan) :
    (∀ e ∈ faults, appliesTo s.active e.kind e.scope g = true →
      (s.configuredLevel e.kind).code ≤ (s.recomputedLevel faults g).code) ∧
    (s.recomputedLevel faults g = .none ∨ ∃ e ∈ faults, appliesTo s.active e.kind e.scope g = true ∧
      s.configuredLevel e.kind = s.recomputedLevel faults g) := by
  obtain ⟨-, hbound, hreached⟩ := foldl_levelMax_greatest (fun f => s.configuredLevel f.kind)
    (faults.filter fun f => appliesTo s.active f.kind f.scope g) .none
  refine ⟨fun e he happlies => hbound e (List.mem_filter.mpr ⟨he, happlies⟩), hreached.imp_right ?_⟩
  rintro ⟨e, he, hlevel⟩
  obtain ⟨hmem, happlies⟩ := List.mem_filter.mp he
  exact ⟨e, hmem, happlies, hlevel⟩

/-! ### What a set does to each block -/

/-- The removals and the recomputation, before the detachments (R100 to R102). -/
theorem State.clearFaults_reaction :
    (s.clearFaults w).reaction = { s.reaction with faults := s.keptFaults w, levels := s.levelsAfter w } := by
  unfold State.clearFaults State.levelsAfter
  cases hclears : clears w with
  | false => simp [s.keptFaults_of_not_clears w hclears]
  | true => simp [State.keptFaults, State.active]

/-- What steering leaves: the entries and levels a set makes are those of the state it is judged against. -/
theorem State.keptFaults_steerGroups : (s.steerGroups w).keptFaults w = s.keptFaults w := by
  simp [State.keptFaults, State.active]

theorem State.levelsAfter_steerGroups : (s.steerGroups w).levelsAfter w = s.levelsAfter w := by
  have hlevel : (s.steerGroups w).recomputedLevel (s.keptFaults w) = s.recomputedLevel (s.keptFaults w) := by
    funext g
    simp [State.recomputedLevel, State.configuredLevel, State.active]
  rw [State.levelsAfter, s.keptFaults_steerGroups w, hlevel]
  simp [State.levelsAfter]

theorem State.performSet_reaction :
    (s.performSet w).reaction =
      { s.reaction with
        faults := s.keptFaults w, levels := s.levelsAfter w
        restart := if inSet w .clearRestart then false else s.reaction.restart } := by
  have hsteered : (s.steerGroups w).reaction = s.reaction := by simp
  have hcleared := (s.steerGroups w).clearFaults_reaction w
  rw [s.keptFaults_steerGroups w, s.levelsAfter_steerGroups w, hsteered] at hcleared
  rw [State.performSet, State.clearRestartFlag]
  cases inSet w .clearRestart <;> simp [hcleared]

/-- The History buffer after a set's REARM, before its CAPTURE (R113). -/
def State.rearmed : History := if inSet w .rearm then ⟨[], .recording, 0⟩ else s.history

theorem State.performSet_history :
    (s.performSet w).history =
      if s.performs w .capture then (s.rearmed w).trigger s.active.postTrigger else s.rearmed w := by
  simp [State.performSet, State.steerHistory, State.rearmed, State.active, History.rearm, History.reset]

theorem State.performSet_groupRef (g : Chan) : (s.performSet w).groupRef.get g = s.recounted w g := by
  simp [State.performSet, State.steerGroups]

theorem State.performSet_rollerRef (r : Chan) :
    (s.performSet w).rollerRef.get r =
      { s.rollerRef.get r with
        excluded := (s.rollerRef.get r).excluded && !s.groupTest (s.clearsMarks w) r } := by
  simp [State.performSet, State.steerGroups]

theorem State.performSet_torque (r : Chan) :
    (s.performSet w).torque.get r =
      if s.groupTest (fun g => s.performs w (.engage g)) r then (s.torque.get r).engaged else s.torque.get r := by
  simp [State.performSet, State.steerGroups]

/-- A level's change leaves a SUSPENDED group, and suspends none (R57). -/
theorem GroupCoupling.onLevel_of_suspended {c : GroupCoupling} (h : c.state = .suspended) (old new : Level) :
    c.onLevel old new = c := by
  obtain ⟨state, step, suspend⟩ := c
  cases h
  exact ite_self _

theorem GroupCoupling.onLevel_suspended {c : GroupCoupling} {old new : Level}
    (h : (c.onLevel old new).state = .suspended) : c.state = .suspended := by
  obtain ⟨state, step, suspend⟩ := c
  unfold GroupCoupling.onLevel at h
  split at h
  · cases state <;> simp_all [GroupCoupling.suspendOnRise]
  · exact h

/-- No function of R54 and R56 steers a SUSPENDED group, and none suspends a group. -/
theorem State.steered_of_suspended {g : Chan} (h : (s.coupling.get g).state = .suspended) :
    s.steered w g = s.coupling.get g := by
  simp [State.steered, State.performs, State.passes, State.engageMayStart, h, GroupState.couples]

theorem State.steered_suspended {g : Chan} (h : (s.steered w g).state = .suspended) :
    (s.coupling.get g).state = .suspended := by
  unfold State.steered at h
  split at h
  · cases h
  · split at h
    · cases h
    · exact h

/-- A CLEAR of the set detaches the SUSPENDED group it names, at NONE or NOTE (R59). -/
def State.detaches (g : Chan) : Prop :=
  inSet w (.clear g) = true ∧ (s.coupling.get g).state = .suspended ∧ ((s.levelsAfter w).get g).code ≤ 1

theorem State.clearFaults_coupling (g : Chan) :
    let c := (s.coupling.get g).onLevel (s.reaction.levels.get g) ((s.levelsAfter w).get g)
    (s.clearFaults w).coupling.get g =
      if inSet w (.clear g) = true ∧ c.state = .suspended ∧ ((s.levelsAfter w).get g).code ≤ 1 then
        { c with state := .detached } else c := by
  intro c
  cases hclears : clears w with
  | false =>
    have hlevels : s.levelsAfter w = s.reaction.levels := by simp [State.levelsAfter, hclears]
    have hclear : inSet w (.clear g) = false := by
      rw [Bool.eq_false_iff]
      exact fun h => Bool.false_ne_true (hclears.symm.trans ((clears_iff w).mpr (.inr ⟨g, h⟩)))
    simp [State.clearFaults, hclears, hclear, c, hlevels, GroupCoupling.onLevel]
  | true =>
    have hlevels : s.levelsAfter w = Quad.ofFn (s.recomputedLevel (s.keptFaults w)) := by
      simp [State.levelsAfter, hclears]
    have hcleared : s.clearFaults w =
        ((s.withReaction { s.reaction with faults := s.keptFaults w }).setLevels (s.levelsAfter w)).detachCleared w := by
      rw [hlevels]
      exact if_pos hclears
    simp [hcleared, State.detachCleared, State.setLevels_coupling, c, and_assoc]

theorem State.performSet_coupling (g : Chan) :
    (s.detaches w g → (s.performSet w).coupling.get g = { s.coupling.get g with state := .detached }) ∧
    (¬ s.detaches w g → (s.performSet w).coupling.get g =
      (s.steered w g).onLevel (s.reaction.levels.get g) ((s.levelsAfter w).get g)) := by
  have hcoupling : (s.performSet w).coupling = ((s.steerGroups w).clearFaults w).coupling := by simp [State.performSet]
  have hsteered : (s.steerGroups w).coupling.get g = s.steered w g := by simp [State.steerGroups]
  have hreaction : (s.steerGroups w).reaction = s.reaction := by simp
  rw [hcoupling, (s.steerGroups w).clearFaults_coupling w g, s.levelsAfter_steerGroups w, hsteered, hreaction]
  constructor
  · rintro ⟨hclear, hsuspended, hlevel⟩
    rw [s.steered_of_suspended w hsuspended, GroupCoupling.onLevel_of_suspended hsuspended]
    exact if_pos ⟨hclear, hsuspended, hlevel⟩
  · intro hkept
    exact if_neg fun ⟨hclear, hsuspended, hlevel⟩ =>
      hkept ⟨hclear, s.steered_suspended w (GroupCoupling.onLevel_suspended hsuspended), hlevel⟩

/-- A set changes the group states and references, the torques, the Reaction unit and the History buffer, nothing
else. -/
theorem State.performSet_only :
    s.performSet w = (((((s.withCoupling (s.performSet w).coupling).withGroupRef (s.performSet w).groupRef).withRollerRef
      (s.performSet w).rollerRef).withTorque (s.performSet w).torque).withReaction (s.performSet w).reaction).withHistory
      (s.performSet w).history := by
  have hframe := s.performSet_frame w
  generalize s.performSet w = t at hframe ⊢
  cases t
  simp only [State.withCoupling, State.withGroupRef, State.withRollerRef, State.withTorque, State.withReaction,
    State.withHistory, State.mk.injEq]
  dsimp only at hframe
  simp [hframe]

/-- A roller's group passes a test. -/
theorem State.groupTest_iff (p : Chan → Bool) (r : Chan) :
    s.groupTest p r = true ↔ ∃ g, s.active.groupOf r = some g ∧ p g = true := by
  unfold State.groupTest
  cases s.active.groupOf r <;> simp

theorem State.clearsMarks_iff (g : Chan) :
    s.clearsMarks w g = true ↔ inSet w (.engage g) = true ∧ s.engageMayStart g = true := by
  rw [State.clearsMarks, Bool.and_eq_true]

/-- The counts an ENGAGE takes anew (R23, R54; log entry 22). -/
theorem State.recounted_of_marks {g : Chan} (h : s.clearsMarks w g = true) :
    s.recounted w g = { s.groupRef.get g with
      includedCount := if s.active.isCouplingGroup g then (s.active.configuredMembers g).length else 0
      contributingCount := if s.active.isCouplingGroup g then (s.active.weightedMembers g).length else 0 } := by
  rw [State.recounted, if_pos h, includedUnmarked_members, contributingUnmarked_members, apply_ite List.length,
    apply_ite List.length]
  rfl

/-- The functions that are performed (R54, R56, R111, R167). -/
theorem State.passes_engage_iff (g : Chan) :
    s.passes w (.engage g) = true ↔
      s.engageMayStart g = true ∧ s.engageHasMembers g = true ∧ inSet w (.release g) = false := by
  simp [State.passes, and_assoc]

theorem State.passes_release_iff (g : Chan) :
    s.passes w (.release g) = true ↔ (s.coupling.get g).state.couples = true ∧ inSet w (.engage g) = false := by
  simp [State.passes]

theorem State.passes_capture_iff : s.passes w .capture = true ↔ s.history.state = .recording := by
  simp [State.passes]

theorem State.performs_iff (f : GroupFunction) :
    s.performs w f = true ↔ inSet w f = true ∧ s.passes w f = true := by
  rw [State.performs, Bool.and_eq_true]

end

/-! ### A GROUP_CONTROL at a computation (R53, R167) -/

/-- With no commit in flight, the start-of-computation work leaves the Service unit. -/
theorem State.startWork_service_of_none {s : State} (h : s.images.commit.state = .none) (start : CycleStart) :
    (s.startWork start).service = s.service := by
  have hcheck : s.countCheck = s := State.countCheck_of_not_checking (by rw [h]; decide)
  rw [State.startWork_service_of_not_ready start (by rw [hcheck, h]; decide), hcheck]

/-- A waiting GROUP_CONTROL is judged and performed in the state that work has left, and answered (R53, R167). -/
theorem State.startCycle_of_waiting {s : State} (h : s.images.commit.state = .none) {q : Request} {rest : List Request}
    (hq : s.service.queue = q :: rest) (hp : s.service.progress = some .waiting) (hc : q.code = 8)
    (start : CycleStart) :
    s.startCycle start = ((s.startWork start).performSet (q.dataWord 0)).withService
      { s.service with progress := some .performed, ready := some ((s.startWork start).setResponse q) } := by
  have hservice := State.startWork_service_of_none h start
  rw [State.startCycle, State.groupFunctionPoint_of_waiting (by rw [hservice]; exact hq) (by rw [hservice]; exact hp) hc]
  have hkept : ((s.startWork start).performSet (q.dataWord 0)).service = s.service := by
    rw [← hservice]
    simp
  rw [State.answer, hkept]

/-- Settles O57: the two sets partition the word by the test each function meets, each block's part of the set follows
from the state judged against, and a computation performs a waiting GROUP_CONTROL after its start's work. -/
theorem groupSetsJudgedTogether : Obligations.GroupSetsJudgedTogether := by
  refine ⟨fun s q => ?_, fun s start q rest hq hp hc hcommit => ?_⟩
  · intro w p performed rejected may has passes t cleared marks
    have hin : ∀ f, inSet performed f = s.performs w f := inSet_setOf (s.performs w)
    have hmarks : ∀ g, marks g ↔ s.clearsMarks w g = true := fun g => by
      rw [State.clearsMarks_iff, State.engageMayStart_iff]
    have hpasses : ∀ f, s.passes w f = true ↔ passes f := fun f => by
      cases f with
      | engage g => rw [State.passes_engage_iff, State.engageMayStart_iff, State.engageHasMembers_iff]
      | release g => exact s.passes_release_iff w g
      | capture => exact s.passes_capture_iff w
      | clear g => exact iff_of_true rfl trivial
      | clearPart => exact iff_of_true rfl trivial
      | rearm => exact iff_of_true rfl trivial
      | clearRestart => exact iff_of_true rfl trivial
    have hreaction : t.reaction = _ := s.performSet_reaction w
    have hhistory : t.history = _ := s.performSet_history w
    have hcleared : cleared ↔ clears w = true := (clears_iff w).symm
    refine ⟨s.performed_and_rejected w, s.performed_or_rejected w, fun f => ?_, fun hr => ?_, fun hr hp => ?_,
      fun hr hp => ?_, rfl, rfl, rfl, rfl, rfl, rfl, s.performSet_only w, ?_, ?_, ?_, ⟨fun hc => ?_, fun hc => ?_⟩,
      ?_, fun e => ?_, fun hc => ?_, fun hc g => ?_, fun g => ?_, fun r => and_assoc.mp ⟨?_, ?_⟩⟩
    · rw [hin, State.performs_iff, hpasses]
    · exact (congrArg (setOutcome performed) hr).trans (setOutcome_of_none performed)
    · exact (setOutcome_of_some hr).trans (if_neg hp)
    · exact (setOutcome_of_some hr).trans (if_pos hp)
    · rw [hreaction]
    · rw [hreaction]
    · rw [hreaction]
    · rw [hin] at hc
      rw [hhistory, if_pos hc]
      exact History.afterTrigger_trigger _ _
    · rw [hin] at hc
      rw [hhistory, hc]
      rfl
    · rw [hreaction]
      exact List.filter_sublist
    · rw [hreaction, State.mem_keptFaults, removable_iff]
    · rw [hcleared] at hc
      rw [hreaction]
      exact if_neg hc
    · rw [hcleared] at hc
      rw [hreaction, State.levelsAfter, if_pos hc, Quad.get_ofFn]
      exact s.recomputedLevel_greatest _ g
    · have hlevels : t.reaction.levels = s.levelsAfter w := by rw [hreaction]
      obtain ⟨hdetached, hkept⟩ := s.performSet_coupling w g
      intro c steered detaches
      have hsteered : steered = s.steered w g := by
        simp only [steered, hin]
        rfl
      have hdetaches : detaches ↔ s.detaches w g := by
        simp only [detaches, hlevels]
        rfl
      refine ⟨fun h => hdetached (hdetaches.mp h), fun h => ?_, fun h => ?_, fun h => ?_⟩
      · rw [hkept (mt hdetaches.mpr h), hsteered, hlevels]
        exact GroupCoupling.afterLevelChange_onLevel _ _ _
      · rw [State.performSet_groupRef, State.recounted_of_marks s w ((hmarks g).mp h)]
      · rw [State.performSet_groupRef, State.recounted, if_neg (mt (hmarks g).mpr h)]
    · have hmarked : (∃ g, s.active.groupOf r = some g ∧ marks g) ↔ s.groupTest (s.clearsMarks w) r = true := by
        simp only [State.groupTest_iff, hmarks]
      rw [State.performSet_rollerRef, hmarked]
      refine ⟨fun h => ?_, fun h => ?_⟩
      · simp [h]
      · rw [Bool.not_eq_true] at h
        simp [h]
    · have hengaged : (∃ g, s.active.groupOf r = some g ∧ inSet performed (.engage g) = true) ↔
          s.groupTest (fun g => s.performs w (.engage g)) r = true := by
        simp only [State.groupTest_iff, hin]
      rw [State.performSet_torque, hengaged]
      exact ⟨fun h => if_pos h, fun h => if_neg h⟩
  · intro w
    have hstart := State.startCycle_of_waiting hcommit hq hp hc start
    refine ⟨s.startWork_cycleCount start, hstart, ?_⟩
    rw [(s.computeCycle_nil_frame start).2, hstart]
    rfl

end Sys2Proof.Machine
end

section
/-! The remaining functions as commands: CLEAR, CLEAR_PART, CAPTURE, REARM and CLEAR_RESTART, each performed alone at the
start of the computation its Demand brings (R53, R59, R100 to R103, R109, R111 to R113, R123). -/

namespace Sys2Proof.Machine

/-! ### Any function as a command (R53, R123) -/

theorem exec_functionCommand (f : GroupFunction) {c : Carrier} {s : State} (h : s.takesFunction c) :
    exec (functionCommand f c) s =
      .next ((((s.atFunctions f c).performSet f.mask).answer
        ((s.atFunctions f c).setResponse (functionRequest f c.tag))).completes s f c) := by
  rw [← State.function_eq h]
  cases f <;> rfl

/-! ### Sets that steer no group -/

section
variable {s : State} {w : Word}

theorem State.performs_of_not_inSet {f : GroupFunction} (h : inSet w f = false) : s.performs w f = false := by
  rw [State.performs, h, Bool.false_and]

theorem State.steered_of_none {g : Chan} (hengage : inSet w (.engage g) = false)
    (hrelease : inSet w (.release g) = false) : s.steered w g = s.coupling.get g := by
  rw [State.steered, State.performs_of_not_inSet hengage, State.performs_of_not_inSet hrelease]
  rfl

theorem State.steerGroups_of_none (hengage : ∀ g, inSet w (.engage g) = false)
    (hrelease : ∀ g, inSet w (.release g) = false) : s.steerGroups w = s := by
  have hengages : ∀ g, s.performs w (.engage g) = false := fun g => State.performs_of_not_inSet (hengage g)
  have hmarks : ∀ g, s.clearsMarks w g = false := fun g => by simp [State.clearsMarks, hengage]
  have htest : ∀ {p : Chan → Bool}, (∀ g, p g = false) → ∀ r, s.groupTest p r = false := fun hp r => by
    rw [Bool.eq_false_iff, ne_eq, State.groupTest_iff]
    rintro ⟨g, -, hg⟩
    exact Bool.false_ne_true ((hp g).symm.trans hg)
  have hcoupling : Quad.ofFn (s.steered w) = s.coupling :=
    Quad.ext_get fun g => by rw [Quad.get_ofFn, State.steered_of_none (hengage g) (hrelease g)]
  have hrecounted : Quad.ofFn (s.recounted w) = s.groupRef := Quad.ext_get fun g => by simp [State.recounted, hmarks]
  have hexcluded : Quad.ofFn (fun r => { s.rollerRef.get r with
      excluded := (s.rollerRef.get r).excluded && !s.groupTest (s.clearsMarks w) r }) = s.rollerRef :=
    Quad.ext_get fun r => by simp [htest hmarks]
  have htorque : Quad.ofFn (fun r =>
      if s.groupTest (fun g => s.performs w (.engage g)) r then (s.torque.get r).engaged else s.torque.get r) =
      s.torque := Quad.ext_get fun r => by simp [htest hengages]
  rw [State.steerGroups, hcoupling, hrecounted, hexcluded, htorque]
  rfl

/-- A set that only clears does nothing else. -/
theorem State.performSet_of_clearing (hengage : ∀ g, inSet w (.engage g) = false)
    (hrelease : ∀ g, inSet w (.release g) = false) (hrearm : inSet w .rearm = false)
    (hcapture : inSet w .capture = false) (hrestart : inSet w .clearRestart = false) :
    s.performSet w = s.clearFaults w := by
  rw [State.performSet, State.steerGroups_of_none hengage hrelease, State.performs_of_not_inSet hcapture,
    State.steerHistory, State.clearRestartFlag, hrearm, hrestart]
  rfl

/-- A set that steers no group and clears nothing acts on the History buffer and the Restart flag only. -/
theorem State.performSet_of_marking (hengage : ∀ g, inSet w (.engage g) = false)
    (hrelease : ∀ g, inSet w (.release g) = false) (hclears : clears w = false) :
    s.performSet w = (s.steerHistory w (s.performs w .capture)).clearRestartFlag w := by
  have hfaults : s.clearFaults w = s := if_neg (by simp [hclears])
  rw [State.performSet, State.steerGroups_of_none hengage hrelease, hfaults]

end

/-- The removals, the recomputation and the detachments change the Reaction unit and the group states only. -/
theorem State.clearFaults_only (s : State) (w : Word) :
    s.clearFaults w = (s.withReaction (s.clearFaults w).reaction).withCoupling (s.clearFaults w).coupling := by
  have hframe := s.clearFaults_frame w
  generalize s.clearFaults w = t at hframe ⊢
  cases t
  simp only [State.withReaction, State.withCoupling, State.mk.injEq]
  dsimp only at hframe
  simp [hframe]

/-! ### CLEAR and CLEAR_PART (R59, R100 to R102) -/

/-- A group's own CLEAR, and CLEAR_PART for no group. -/
def clearOf : Option Chan → GroupFunction
  | some g => .clear g
  | none => .clearPart

theorem inSet_clearOf_clear (own : Option Chan) (g : Chan) :
    inSet (clearOf own).mask (.clear g) = true ↔ own = some g := by
  rw [inSet_mask]
  cases own <;> simp [clearOf, eq_comm]

theorem inSet_clearOf_clearPart (own : Option Chan) : inSet (clearOf own).mask .clearPart = true ↔ own = none := by
  rw [inSet_mask]
  cases own <;> simp [clearOf]

theorem inSet_clearOf_engage (own : Option Chan) (g : Chan) : inSet (clearOf own).mask (.engage g) = false := by
  rw [inSet_mask]
  cases own <;> rfl

theorem inSet_clearOf_release (own : Option Chan) (g : Chan) : inSet (clearOf own).mask (.release g) = false := by
  rw [inSet_mask]
  cases own <;> rfl

theorem clears_clearOf (own : Option Chan) : clears (clearOf own).mask = true := by
  rw [clears_iff]
  cases own with
  | none => exact .inl ((inSet_clearOf_clearPart none).mpr rfl)
  | some g => exact .inr ⟨g, (inSet_clearOf_clear (some g) g).mpr rfl⟩

theorem State.passes_clearOf (s : State) (w : Word) (own : Option Chan) : s.passes w (clearOf own) = true := by
  cases own <;> rfl

theorem State.performSet_clearOf (s : State) (own : Option Chan) :
    s.performSet (clearOf own).mask = s.clearFaults (clearOf own).mask := by
  refine State.performSet_of_clearing (inSet_clearOf_engage own) (inSet_clearOf_release own) ?_ ?_ ?_ <;>
    rw [inSet_mask] <;> cases own <;> rfl

/-- The entries that one CLEAR or CLEAR_PART leaves (R100, R101). -/
theorem State.mem_keptFaults_clearOf (s : State) (own : Option Chan) (e : FaultEntry) :
    e ∈ s.keptFaults (clearOf own).mask ↔ e ∈ s.reaction.faults ∧ ¬ (e.causePresent = false ∧
      ((own = none ∧ e.kind.scopeKind = .part) ∨ (own = some e.scope ∧ e.kind.scopeKind = .group) ∨
        (e.kind.scopeKind = .roller ∧ own ≠ none ∧ s.active.groupOf e.scope = own))) := by
  have hroller : (∃ g, s.active.groupOf e.scope = some g ∧ own = some g) ↔
      own ≠ none ∧ s.active.groupOf e.scope = own := by
    cases own <;> simp
  rw [State.mem_keptFaults, removable_iff]
  simp only [inSet_clearOf_clear, inSet_clearOf_clearPart, hroller, and_comm (a := own = none),
    and_comm (a := own = some e.scope)]

/-- Settles O59: the command's set clears and does nothing else, and its entries, levels and group states are those of
the set it is. -/
theorem clearsRemoveAndRecompute : Obligations.ClearsRemoveAndRecompute := by
  intro s c f own bit h hf p
  obtain ⟨rfl, rfl⟩ : f = clearOf own ∧ bit = f.mask := by
    rcases hf with ⟨g, rfl, rfl, rfl⟩ | ⟨rfl, rfl, rfl⟩
    · exact ⟨rfl, rfl⟩
    · exact ⟨rfl, rfl⟩
  have hexec : exec (functionCommand (clearOf own) c) s = .next (((p.performSet (clearOf own).mask).answer
    (p.setResponse (functionRequest (clearOf own) c.tag))).completes s (clearOf own) c) := exec_functionCommand _ h
  clear_value p
  have hperforms := p.performSet_clearOf own
  rw [State.setResponse_of_passes (p.passes_clearOf _ own), hperforms, State.clearFaults_only] at hexec
  have hreaction := p.clearFaults_reaction (clearOf own).mask
  have hlevels : (p.clearFaults (clearOf own).mask).reaction.levels = p.levelsAfter (clearOf own).mask := by rw [hreaction]
  refine ⟨_, _, hexec, ?_, ?_, ?_, fun e => ?_, ?_, fun g => ?_, fun g => ?_⟩
  · rw [hreaction]
  · rw [hreaction]
  · rw [hreaction]
  · rw [hreaction]
    exact p.mem_keptFaults_clearOf own e
  · rw [hreaction]
    exact List.filter_sublist
  · rw [hreaction, State.levelsAfter, if_pos (clears_clearOf own), Quad.get_ofFn]
    exact p.recomputedLevel_greatest _ g
  · obtain ⟨hdetached, hkept⟩ := p.performSet_coupling (clearOf own).mask g
    have hsteered : p.steered (clearOf own).mask g = p.coupling.get g :=
      State.steered_of_none (inSet_clearOf_engage own g) (inSet_clearOf_release own g)
    rw [hperforms] at hdetached hkept
    rw [← inSet_clearOf_clear, hlevels]
    refine ⟨hdetached, fun hnot => ?_⟩
    rw [hkept hnot, hsteered]
    exact GroupCoupling.afterLevelChange_onLevel _ _ _

/-! ### CAPTURE, REARM and CLEAR_RESTART (R103, R111, R113) -/

section
variable (s : State)

theorem State.withHistory_self : s.withHistory s.history = s := rfl

theorem State.performSet_capture :
    s.performSet GroupFunction.capture.mask = s.withHistory
      (if s.history.state = .recording then s.history.trigger s.active.postTrigger else s.history) := by
  rw [State.performSet_of_marking (fun g => inSet_mask _ _) (fun g => inSet_mask _ _) (by simp [clears, inSet_mask])]
  simp [State.steerHistory, State.clearRestartFlag, inSet_mask, State.performs_mask, State.passes]

theorem State.performSet_rearm : s.performSet GroupFunction.rearm.mask = s.withHistory ⟨[], .recording, 0⟩ := by
  rw [State.performSet_of_marking (fun g => inSet_mask _ _) (fun g => inSet_mask _ _) (by simp [clears, inSet_mask])]
  simp [State.steerHistory, State.clearRestartFlag, inSet_mask, State.performs_mask, History.rearm, History.reset]

theorem State.performSet_clearRestart :
    s.performSet GroupFunction.clearRestart.mask = s.withReaction { s.reaction with restart := false } := by
  rw [State.performSet_of_marking (fun g => inSet_mask _ _) (fun g => inSet_mask _ _) (by simp [clears, inSet_mask])]
  simp [State.steerHistory, State.clearRestartFlag, inSet_mask, State.performs_mask, State.withHistory_self]

end

/-- A function that passes is answered DONE with its bit performed and the computation's count (R168). -/
theorem exec_function_of_passes {f : GroupFunction} {c : Carrier} {s : State} (h : s.takesFunction c)
    (hpasses : (s.atFunctions f c).passes f.mask f = true) :
    exec (functionCommand f c) s = .next ((((s.atFunctions f c).performSet f.mask).answer
      ⟨8, c.tag, .done, 0, 0, [f.mask, 0, 0, s.timer.cycleCount + 1, 0, 0, 0, 0]⟩).completes s f c) := by
  obtain ⟨hcount, -⟩ := atFunctions_effects h f
  rw [exec_functionCommand f h, State.setResponse_of_passes hpasses, hcount]

theorem exec_function_of_fails {f : GroupFunction} {c : Carrier} {s : State} (h : s.takesFunction c)
    (hfails : (s.atFunctions f c).passes f.mask f = false) :
    exec (functionCommand f c) s = .next ((((s.atFunctions f c).performSet f.mask).answer
      ⟨8, c.tag, .refusedState, 0, 0, [0, f.mask, 0, s.timer.cycleCount + 1, 0, 0, 0, 0]⟩).completes s f c) := by
  obtain ⟨hcount, -⟩ := atFunctions_effects h f
  rw [exec_functionCommand f h, State.setResponse_of_fails hfails, hcount]

/-- Settles O60: each of the three functions passes or fails on the state it is judged against, and its set acts on the
History buffer or the Restart flag alone. -/
theorem historyAndRestartFunctions : Obligations.HistoryAndRestartFunctions := by
  intro s c h judged ends
  have hhistory : (judged .capture).history = s.history := by
    obtain ⟨-, -, -, hhistory, -⟩ := atFunctions_effects h .capture
    exact hhistory
  have hpasses := (judged .capture).passes_capture_iff GroupFunction.capture.mask
  have hperforms := (judged .capture).performSet_capture
  rw [hhistory] at hpasses hperforms
  refine ⟨fun hrecording => ⟨_, History.afterTrigger_trigger _ _, ?_⟩, fun hrecording => ?_, ?_, ?_⟩
  · rw [if_pos hrecording] at hperforms
    rw [← hperforms]
    exact exec_function_of_passes h (hpasses.mpr hrecording)
  · rw [if_neg hrecording, ← hhistory] at hperforms
    rw [State.withHistory_self] at hperforms
    have hexec := exec_function_of_fails h (Bool.eq_false_iff.mpr (mt hpasses.mp hrecording))
    rw [hperforms] at hexec
    exact hexec
  · have hexec := exec_function_of_passes (f := .rearm) h rfl
    rw [State.performSet_rearm] at hexec
    exact hexec
  · have hexec := exec_function_of_passes (f := .clearRestart) h rfl
    rw [State.performSet_clearRestart] at hexec
    exact hexec

end Sys2Proof.Machine
end

section
/-! Substitution: the phase of a roller, its walk to Clear and back, and what a commit copy makes of its record (R70 to
R74, R76, R77). -/

namespace Sys2Proof.Machine

/-! ### One step toward a target (R71, R73) -/

theorem moveToward_of_near {step target x : Int} (h : |target - x| ≤ step) : moveToward step target x = target := if_pos h

/-- A target more than a step away is not reached, and the step is taken in its direction. -/
theorem moveToward_of_far {step target x : Int} (h : step < |target - x|) :
    (x < target → moveToward step target x = x + step) ∧ (target < x → moveToward step target x = x - step) := by
  rw [moveToward, if_neg (not_le.mpr h)]
  exact ⟨fun hlt => if_pos hlt, fun hlt => if_neg (not_lt.mpr hlt.le)⟩

/-! ### The record after a commit copy (R76) -/

/-- A torque of the record at a computation: clamped into the new range where a commit copy was made. -/
def keptTorque (old : Option Image) (img : Image) (r : Chan) (x : Int) : Int :=
  if old = none then x else clamp (img.tmin r) (img.tmax r) x

/-- A commit copy changes the range or the Clear torque of a roller that is being walked to Clear or is there. -/
def Composer.renewed (c : Composer) (old : Option Image) (img : Image) (r : Chan) : Bool :=
  (old.any fun o =>
    decide (img.tmin r ≠ o.tmin r ∨ img.tmax r ≠ o.tmax r ∨ img.clearTorque r ≠ o.clearTorque r)) &&
      decide (c.phase = .ramp ∨ c.phase = .atClear)

theorem rangeChanged_eq (o img : Image) (r : Chan) :
    rangeChanged o img r =
      decide (img.tmin r ≠ o.tmin r ∨ img.tmax r ≠ o.tmax r ∨ img.clearTorque r ≠ o.clearTorque r) := by
  rw [Bool.eq_iff_iff, decide_eq_true_iff]
  simp only [rangeChanged, Bool.or_eq_true, bne_iff_ne, or_assoc]

/-- The kept torques stand in the record, whose ramp starts anew where it is renewed (R76). -/
theorem Composer.afterCommit_eq (c : Composer) (old : Option Image) (img : Image) (r : Chan) :
    c.afterCommit old img r =
      { c with
        phase := if c.renewed old img r then .ramp else c.phase
        lastWritten := keptTorque old img r c.lastWritten
        rampStart := keptTorque old img r (if c.renewed old img r then c.lastWritten else c.rampStart) } := by
  cases old with
  | none => rfl
  | some o =>
    obtain ⟨phase, lastWritten, rampStart, composed, runCount, saturation, enable⟩ := c
    cases phase with
    | off => simp [Composer.afterCommit, Composer.renewed, keptTorque]
    | return_ => simp [Composer.afterCommit, Composer.renewed, keptTorque]
    | ramp =>
      simp only [Composer.afterCommit, Composer.renewed, keptTorque, rangeChanged_eq]
      split <;> simp_all
    | atClear =>
      simp only [Composer.afterCommit, Composer.renewed, keptTorque, rangeChanged_eq]
      split <;> simp_all

/-! ### The phase of a stage (R70) -/

section
variable {c : Composer} {level : Level}

theorem Composer.setPhase_of_safe (hlevel : level = .safe) (h : c.phase ≠ .atClear) :
    c.setPhase level =
      { c with phase := .ramp, rampStart := if c.phase = .ramp then c.rampStart else c.lastWritten } := by
  obtain ⟨phase, lastWritten, rampStart, composed, runCount, saturation, enable⟩ := c
  rw [Composer.setPhase, if_pos hlevel]
  cases phase with
  | off => rfl
  | ramp => rfl
  | atClear => exact absurd rfl h
  | return_ => rfl

theorem Composer.setPhase_of_atClear (hlevel : level = .safe) (h : c.phase = .atClear) : c.setPhase level = c := by
  rw [Composer.setPhase, if_pos hlevel, h]

theorem Composer.setPhase_of_off (hlevel : level ≠ .safe) (h : c.phase = .off) : c.setPhase level = c := by
  rw [Composer.setPhase, if_neg hlevel, h]

theorem Composer.setPhase_of_return (hlevel : level ≠ .safe) (h : c.phase ≠ .off) :
    c.setPhase level = { c with phase := .return_ } := by
  obtain ⟨phase, lastWritten, rampStart, composed, runCount, saturation, enable⟩ := c
  rw [Composer.setPhase, if_neg hlevel]
  cases phase with
  | off => exact absurd rfl h
  | ramp => rfl
  | atClear => rfl
  | return_ => rfl

end

theorem State.levelOfRoller_eq_safe_iff (s : State) (r : Chan) :
    s.levelOfRoller r = .safe ↔ ∃ g, s.active.groupOf r = some g ∧ s.reaction.levels.get g = .safe := by
  unfold State.levelOfRoller
  cases s.active.groupOf r with
  | none => simp
  | some g => simp

/-! ### The walk of one stage (R71 to R73) -/

/-- What a walk from `last` toward `target` writes and which phase it leaves: the target and `reached` where it is within a
step, a step toward it and `walking` otherwise. -/
def walks (step last target : Int) (walking reached : Phase) (written : Int) (phase : Phase) : Prop :=
  (|target - last| ≤ step → written = target ∧ phase = reached) ∧
  (step < |target - last| →
    ((last < target → written = last + step) ∧ (target < last → written = last - step)) ∧ phase = walking)

theorem walks_moveToward (step last target : Int) (walking reached : Phase) :
    walks step last target walking reached (moveToward step target last)
      (if |target - last| ≤ step then reached else walking) :=
  ⟨fun h => ⟨moveToward_of_near h, if_pos h⟩, fun h => ⟨moveToward_of_far h, if_neg (not_le.mpr h)⟩⟩

theorem Composer.walks_of_ramp {c : Composer} (h : c.phase = .ramp) (composed clear step : Int) :
    walks step c.lastWritten clear .ramp .atClear (c.writtenTorque composed clear step)
      (c.endPhase composed clear step) := by
  rw [Composer.writtenTorque, Composer.endPhase, h]
  exact walks_moveToward _ _ _ _ _

theorem Composer.walks_of_return {c : Composer} (h : c.phase = .return_) (composed clear step : Int) :
    walks step c.lastWritten composed .return_ .off (c.writtenTorque composed clear step)
      (c.endPhase composed clear step) := by
  rw [Composer.writtenTorque, Composer.endPhase, h]
  exact walks_moveToward _ _ _ _ _

theorem Composer.stays_of_atClear {c : Composer} (h : c.phase = .atClear) (composed clear step : Int) :
    c.writtenTorque composed clear step = clear ∧ c.endPhase composed clear step = .atClear := by
  rw [Composer.writtenTorque, Composer.endPhase, h]
  exact ⟨rfl, rfl⟩

theorem Composer.follows_of_off {c : Composer} (h : c.phase = .off) (composed clear step : Int) :
    c.writtenTorque composed clear step = composed ∧ c.endPhase composed clear step = .off := by
  rw [Composer.writtenTorque, Composer.endPhase, h]
  exact ⟨rfl, rfl⟩

/-! ### The record after the stage -/

/-- The stage writes what the record with its phase set gives (R70 to R73, R77). -/
theorem State.nextComposer_walk (s : State) (old : Option Image) (r : Chan) :
    let c := s.phased old r
    let n := s.nextComposer old r
    n.lastWritten = c.writtenTorque n.composed (s.active.clearTorque r) s.active.safeStep ∧
    n.phase = c.endPhase n.composed (s.active.clearTorque r) s.active.safeStep ∧ n.rampStart = c.rampStart :=
  ⟨rfl, rfl, rfl⟩

theorem State.nextComposer_enable (s : State) (old : Option Image) (r : Chan) :
    (s.nextComposer old r).enable =
      if (s.nextComposer old r).phase = .atClear then false else (s.slotFor r).enable := rfl

/-- Settles O43: the record a commit copy leaves, the phase the level sets in it, and the walk or the stay of that phase. -/
theorem substitutionWalksToClear : Obligations.SubstitutionWalksToClear := by
  intro s old r held hheld img c n kept last renewed phase start clear step safe walked
  obtain ⟨a, ha⟩ : ∃ a, a = c.afterCommit old img r := ⟨_, rfl⟩
  have hphased : s.phased old r = a.setPhase (s.levelOfRoller r) := by rw [ha]; rfl
  have hn : n = s.nextComposer old r := s.compositionStage_composer old r
  have hsafe : s.levelOfRoller r = .safe ↔ safe := s.levelOfRoller_eq_safe_iff r
  have hlast : a.lastWritten = last := by rw [ha, Composer.afterCommit_eq]; rfl
  have hphase : a.phase = phase := by rw [ha, Composer.afterCommit_eq]; rfl
  have hstart : a.rampStart = start := by
    rw [ha, Composer.afterCommit_eq]
    exact apply_ite (keptTorque old img r) _ _ _
  obtain ⟨hwritten, hend, hramp⟩ := s.nextComposer_walk old r
  rw [← hn, hphased] at hwritten hend hramp
  have hslot : s.slotFor r = held.get (slotPosition img r) := by simp [State.slotFor, hheld, img]
  refine ⟨fun hs hp => ?_, fun hs hp => ?_, fun hs hp => ?_, fun hs hp => ?_, ?_⟩
  · rw [Composer.setPhase_of_safe (hsafe.mpr hs) (hphase ▸ hp)] at hwritten hend hramp
    have hwalk := Composer.walks_of_ramp (c := { a with
      phase := .ramp, rampStart := if a.phase = .ramp then a.rampStart else a.lastWritten }) rfl n.composed clear step
    rw [← hwritten, ← hend, hlast] at hwalk
    refine ⟨?_, hwalk⟩
    rw [hramp, hphase, hstart, hlast]
  · rw [Composer.setPhase_of_atClear (hsafe.mpr hs) (hphase.trans hp)] at hwritten hend hramp
    obtain ⟨hclear, hstays⟩ := Composer.stays_of_atClear (hphase.trans hp) n.composed clear step
    exact ⟨hwritten.trans hclear, hend.trans hstays, hramp.trans hstart⟩
  · rw [Composer.setPhase_of_off (mt hsafe.mp hs) (hphase.trans hp)] at hwritten hend hramp
    obtain ⟨hcomposed, hstays⟩ := Composer.follows_of_off (hphase.trans hp) n.composed clear step
    exact ⟨hwritten.trans hcomposed, hend.trans hstays, hramp.trans hstart⟩
  · rw [Composer.setPhase_of_return (mt hsafe.mp hs) (hphase ▸ hp)] at hwritten hend hramp
    have hwalk := Composer.walks_of_return (c := { a with phase := .return_ }) rfl n.composed clear step
    rw [← hwritten, ← hend, hlast] at hwalk
    exact ⟨hramp.trans hstart, hwalk⟩
  · rw [hn, State.nextComposer_enable, hslot]

end Sys2Proof.Machine
end

section
/-! The torques of a composer record stay within the roller's Active range through a composition stage (R64, R71 to R73,
R76, R77). -/

namespace Sys2Proof.Machine

/-! ### The range of a roller (R145, R147, R157) -/

/-- A torque of roller `r` lies within the range of an image. -/
def Image.inRange (img : Image) (r : Chan) (x : Int) : Prop := img.tmin r ≤ x ∧ x ≤ img.tmax r

theorem State.writtenOk_iff (s : State) :
    s.writtenOk ↔ ∀ r, s.active.inRange r (s.composer.get r).lastWritten ∧
      s.active.inRange r (s.composer.get r).rampStart ∧ s.active.inRange r (s.composer.get r).composed := Iff.rfl

/-- The Clear torque of a roller lies within its range in a valid image (R147). -/
theorem Image.clearTorque_inRange {img : Image} (h : img.valid = true) (r : Chan) : img.inRange r (img.clearTorque r) := by
  have hindex : ∀ o < 15, Fin.ofNat 4 ((10 + 15 * r.val + o - 10) / 15) = r ∧ (10 + 15 * r.val + o - 10) % 15 = o := by
    intro o ho
    rw [show 10 + 15 * r.val + o - 10 = 15 * r.val + o by omega]
    exact ⟨Fin.ext (by simp only [Fin.val_ofNat]; omega), by omega⟩
  have hpasses : ∀ o < 15, rollerFails img r o = false := fun o ho => by
    have hfield := (Image.valid_iff img).mp h (10 + 15 * r.val + o) (by omega)
    rwa [fieldFails, if_neg (by omega), if_pos (by omega), (hindex o ho).1, (hindex o ho).2] at hfield
  have hmax := hpasses 7 (by decide)
  have hmin := hpasses 8 (by decide)
  simp only [rollerFails, Bool.or_eq_false_iff, decide_eq_false_iff_not, not_lt] at hmax hmin
  exact ⟨hmin.2, hmax.2⟩

/-- A live write leaves every field of a roller's record (R145). -/
theorem applyLive_roller (img : Image) {writes : List LiveValue} (h : ∀ p ∈ writes, isLive p.index = true) (r : Chan)
    {o : Nat} (ho : o < 15) : (applyLive img writes).roller r o = img.roller r o := by
  have hnone : (writes.filter fun p => p.index == 10 + 15 * r.val + o) = [] :=
    List.filter_eq_nil_iff.mpr fun p hp heq => by
      have hlive := h p hp
      rw [beq_iff_eq.mp heq] at hlive
      simp [isLive] at hlive
      omega
  rw [Image.roller, applyLive_field _ _ (by omega), hnone]
  rfl

theorem applyLive_inRange (img : Image) {writes : List LiveValue} (h : ∀ p ∈ writes, isLive p.index = true) (r : Chan)
    (x : Int) : (applyLive img writes).inRange r x ↔ img.inRange r x := by
  simp only [Image.inRange, Image.tmin, Image.tmax, applyLive_roller img h r (by decide : 6 < 15),
    applyLive_roller img h r (by decide : 7 < 15)]

/-! ### The records of a stage (R71 to R73, R76) -/

section
variable {img : Image} {r : Chan}

theorem Image.clamp_inRange (hrange : img.tmin r ≤ img.tmax r) (x : Int) :
    img.inRange r (clamp (img.tmin r) (img.tmax r) x) := clamp_within hrange x

/-- A commit copy clamps what was in the old range into the new one (R76). -/
theorem keptTorque_inRange {old : Option Image} {x : Int} (hrange : img.tmin r ≤ img.tmax r)
    (h : old = none → img.inRange r x) : img.inRange r (keptTorque old img r x) := by
  unfold keptTorque
  split
  case isTrue hnone => exact h hnone
  case isFalse => exact Image.clamp_inRange hrange x

/-- The phase of a stage leaves the last written torque, from which a ramp starts or goes on (R70). -/
theorem Composer.setPhase_torques (c : Composer) (level : Level) :
    (c.setPhase level).lastWritten = c.lastWritten ∧
    ((c.setPhase level).rampStart = c.rampStart ∨ (c.setPhase level).rampStart = c.lastWritten) := by
  by_cases hlevel : level = .safe
  · by_cases hphase : c.phase = .atClear
    · rw [Composer.setPhase_of_atClear hlevel hphase]
      exact ⟨rfl, .inl rfl⟩
    · rw [Composer.setPhase_of_safe hlevel hphase]
      exact ⟨rfl, ite_eq_or_eq _ _ _⟩
  · by_cases hphase : c.phase = .off
    · rw [Composer.setPhase_of_off hlevel hphase]
      exact ⟨rfl, .inl rfl⟩
    · rw [Composer.setPhase_of_return hlevel hphase]
      exact ⟨rfl, .inl rfl⟩

/-- A walk between two torques of the range stays in it (R71 to R73). -/
theorem Composer.writtenTorque_inRange {c : Composer} {composed clear step : Int} (hstep : 0 ≤ step)
    (hlast : img.inRange r c.lastWritten) (hcomposed : img.inRange r composed) (hclear : img.inRange r clear) :
    img.inRange r (c.writtenTorque composed clear step) := by
  unfold Composer.writtenTorque
  cases c.phase with
  | off => exact hcomposed
  | ramp => exact moveToward_within hstep hclear hlast
  | atClear => exact hclear
  | return_ => exact moveToward_within hstep hcomposed hlast

end

/-- The composition stage leaves every torque within the range: of the records before it only those that no commit copy has
clamped need to lie there (R76, R77). -/
theorem State.compositionStage_writtenOk {s : State} {old : Option Image} (hvalid : s.active.valid = true)
    (h : old = none → s.writtenOk) : (s.compositionStage old).writtenOk := by
  have hactive : (s.compositionStage old).active = s.active := State.active_eq (by simp)
  intro r
  rw [hactive, State.compositionStage_composer]
  have hclear := Image.clearTorque_inRange hvalid r
  have hrange : s.active.tmin r ≤ s.active.tmax r := hclear.1.trans hclear.2
  have hcomposed : s.active.inRange r (s.composedTorque r) := Image.clamp_inRange hrange _
  obtain ⟨hlast, hstart⟩ := ((s.composer.get r).afterCommit old s.active r).setPhase_torques (s.levelOfRoller r)
  rw [Composer.afterCommit_eq] at hlast hstart
  have hkept : s.active.inRange r (s.phased old r).lastWritten := by
    rw [State.phased, Composer.afterCommit_eq, hlast]
    exact keptTorque_inRange hrange fun hnone => (h hnone r).1
  have hramp : s.active.inRange r (s.phased old r).rampStart := by
    rw [State.phased, Composer.afterCommit_eq]
    rcases hstart with heq | heq <;> rw [heq] <;> refine keptTorque_inRange hrange fun hnone => ?_
    · split
      · exact (h hnone r).1
      · exact (h hnone r).2.1
    · exact (h hnone r).1
  exact ⟨Composer.writtenTorque_inRange (Int.natCast_nonneg _) hkept hcomposed hclear, hramp, hcomposed⟩

end Sys2Proof.Machine
end

section
/-! Every step keeps the written, ramp start and composed torques within the Active range (R64, R76, R77). -/

namespace Sys2Proof.Machine

/-! ### Changes that leave what composes the torques -/

/-- Two states with the same composer records and the same Active image, and the same computation running. -/
structure State.ComposesLike (s t : State) : Prop where
  composer : t.composer = s.composer
  active : t.images.active = s.images.active
  computing : t.timer.computing = s.timer.computing

theorem State.ComposesLike.writtenOk {s t : State} (same : s.ComposesLike t) (h : s.writtenOk) : t.writtenOk := by
  rwa [State.writtenOk, same.composer, State.active, same.active]

@[simp] theorem State.performKind_images_active (s : State) (q : Request) :
    (s.performKind q).images.active = s.images.active := s.performKind_active q

@[simp] theorem State.performHead_images_active (s : State) : s.performHead.images.active = s.images.active := by
  unfold State.performHead
  split <;> simp

@[simp] theorem State.handOver_images_active (s : State) (q : Request) :
    (s.handOver q).images.active = s.images.active := by
  unfold State.handOver
  split
  · split <;> simp
  · simp

@[simp] theorem State.advanceQueue_images_active (s : State) : s.advanceQueue.images.active = s.images.active := by
  simp [State.advanceQueue]

theorem State.checkEnds_images_active (s : State) : s.checkEnds.images.active = s.images.active := by
  unfold State.checkEnds
  split
  · exact s.endCheck_active
  · rfl

theorem State.writeEnds_images_active (s : State) : s.writeEnds.images.active = s.images.active := by
  unfold State.writeEnds
  split
  · split
    · rw [State.endWrite_images]
    · rfl
  · rfl

theorem State.changeSetup_images_active (s : State) (b : Bool) :
    (s.changeSetup b).images.active = s.images.active := by
  unfold State.changeSetup
  dsimp only
  split <;> rfl

theorem State.deadlineComes_computing (s : State) : s.deadlineComes.timer.computing = s.timer.computing := by
  unfold State.deadlineComes
  split
  · split
    · simp [State.deadlineExpires]
    · rfl
  · rfl

/-- A Demand's passage up to its computation leaves Active and the computation that runs (R123). -/
@[simp] theorem State.demandPassage_composes (s : State) (bytes : List Byte) (m : Nat) :
    (s.demandPassage bytes m).images.active = s.images.active ∧
    (s.demandPassage bytes m).timer.computing = s.timer.computing := by
  unfold State.demandPassage State.goodDemandPassage State.takeRequest
  split
  · split
    · simp [State.countDrop, State.validDemand_timer]
    · split <;> simp [State.validDemand_timer]
  · simp

theorem State.receiveDemand_composes (s : State) (bytes : List Byte) :
    (s.receiveDemand bytes).images.active = s.images.active ∧
    (s.receiveDemand bytes).timer.computing = s.timer.computing := by
  unfold State.receiveDemand
  split <;> simp

theorem State.finishDemand_composes (s : State) :
    s.finishDemand.images.active = s.images.active ∧ s.finishDemand.timer.computing = s.timer.computing := by
  unfold State.finishDemand State.beginWaitingDemand
  split
  · exact ⟨rfl, rfl⟩
  · split
    · simp
    · split <;> simp

/-- The end of a Feedback's passage may reset the unit, and leaves what composes the torques otherwise (R161, R169). -/
theorem State.finishFeedback_cases (s : State) :
    s.ComposesLike s.finishFeedback ∨ ∃ u : State, s.finishFeedback = u.restartReset := by
  unfold State.finishFeedback
  split
  · exact .inl ⟨rfl, rfl, rfl⟩
  · dsimp only
    split
    · split
      · exact .inr ⟨_, rfl⟩
      · exact .inl (by constructor <;> simp)
    · exact .inl (by constructor <;> simp)

/-- An event leaves what composes the torques, or it is the reset of an accepted RESTART. -/
theorem State.happens_cases (s : State) (e : Event) :
    s.ComposesLike (s.happens e) ∨ ∃ u : State, s.happens e = u.restartReset := by
  cases e with
  | estopAssert => exact .inl (by constructor <;> simp [State.happens])
  | estopRelease => exact .inl (by constructor <;> simp [State.happens])
  | setupChange active =>
    exact .inl ⟨by simp [State.happens], s.changeSetup_images_active active, by simp [State.happens]⟩
  | demandReception bytes =>
    obtain ⟨hactive, hcomputing⟩ := s.receiveDemand_composes bytes
    exact .inl ⟨by simp [State.happens], hactive, hcomputing⟩
  | demandSent =>
    obtain ⟨hactive, hcomputing⟩ := s.finishDemand_composes
    exact .inl ⟨by simp [State.happens], hactive, hcomputing⟩
  | feedbackReception bytes => exact .inl (by constructor <;> simp [State.happens])
  | feedbackSent => exact s.finishFeedback_cases
  | deadlineExpiry =>
    exact .inl ⟨by simp [State.happens], by simp [State.happens], s.deadlineComes_computing⟩
  | commitCheckEnd => exact .inl ⟨by simp [State.happens], s.checkEnds_images_active, by simp [State.happens]⟩
  | calibrationWriteEnd => exact .inl ⟨by simp [State.happens], s.writeEnds_images_active, by simp [State.happens]⟩

/-! ### Resets (R64, R146) -/

/-- A reset sets every torque to the Clear torque of the image it loads. -/
theorem State.resetBlocks_writtenOk (s : State) : s.resetBlocks.writtenOk := fun r => by
  have hclear := Image.clearTorque_inRange (loadedImage_valid s.survivingStore) r
  have hcomposer : s.resetBlocks.composer.get r = Composer.reset ((loadedImage s.survivingStore).clearTorque r) := by
    simp [State.resetBlocks]
  rw [hcomposer]
  exact ⟨hclear, hclear, hclear⟩

theorem State.endReset_composesLike (s : State) : s.ComposesLike s.endReset := by
  refine ⟨by simp, ?_, by simp⟩
  unfold State.endReset
  dsimp only
  split <;> simp

theorem State.restartReset_writtenOk (s : State) : s.restartReset.writtenOk :=
  s.resetBlocks.endReset_composesLike.writtenOk s.resetBlocks_writtenOk

/-! ### A computation (R76, R122, R133, R155) -/

/-- The stores are in order and every torque lies within the Active range. -/
def State.composerOk (s : State) : Prop := s.storesOk ∧ s.writtenOk

/-- The same while a computation runs that replaced the image `old`: up to its composition stage a torque may lie outside
the new range, unless the computation was abandoned, which a reset alone does. -/
def State.composerDue (old : Option Image) (s : State) : Prop :=
  s.storesOk ∧ (s.timer.computing = none ∨ old = none → s.writtenOk)

/-- An event keeps the torques as due as they were, a reset by setting all of them. -/
theorem State.happens_composerDue {old : Option Image} {s : State} (h : s.composerDue old) (e : Event) :
    (s.happens e).composerDue old := by
  refine ⟨storesOk_kept.happens e h.1, ?_⟩
  rcases s.happens_cases e with same | ⟨u, hreset⟩
  · rw [same.computing]
    exact fun hc => same.writtenOk (h.2 hc)
  · rw [hreset]
    exact fun _ => u.restartReset_writtenOk

theorem State.takeEvent_composerDue {old : Option Image} {s : State} (h : s.composerDue old) (e : MidEvent) :
    (s.takeEvent e).composerDue old := by
  unfold State.takeEvent
  split
  · exact State.happens_composerDue (s := s.tick e.elapsed) ⟨storesOk_kept.tick _ h.1, h.2⟩ e.event
  · exact h

/-- Without a computation that waits for its composition stage the torques are within the range. -/
theorem State.composerDue_none_iff (s : State) : s.composerDue none ↔ s.composerOk := by
  simp [State.composerDue, State.composerOk]

theorem State.composerOk.happens {s : State} (h : s.composerOk) (e : Event) : (s.happens e).composerOk :=
  (State.composerDue_none_iff _).mp (State.happens_composerDue ((State.composerDue_none_iff s).mpr h) e)

/-- A run of stages in which one brings about what the rest keep, unless the computation is abandoned before it. -/
theorem State.runFrom_reaches {P Q : State → Prop} {during : List MidEvent} {before after : List (State → State)}
    {f : State → State} (hbefore : ∀ g ∈ before, ∀ u, P u → P (g u))
    (heventBefore : ∀ e ∈ during, ∀ u, P u → P (u.takeEvent e))
    (habandoned : ∀ u, u.timer.computing = none → P u → Q u) (hf : ∀ u, P u → Q (f u))
    (hafter : ∀ g ∈ after, ∀ u, Q u → Q (g u)) (heventAfter : ∀ e ∈ during, ∀ u, Q u → Q (u.takeEvent e)) :
    ∀ (point : Nat) (s : State), P s → Q (State.runFrom during (before ++ f :: after) point s) := by
  have hevents : ∀ point u, P u → P (u.takeEvents during point) := fun point u hu =>
    State.runFrom_keeps (fs := []) nofun heventBefore point u hu
  induction before with
  | nil =>
    refine fun point s h => State.runFrom_keeps hafter heventAfter _ _ ?_
    have hdue := hevents point s h
    unfold State.runStage
    split
    · exact hf _ hdue
    case isFalse hnot => exact habandoned _ (by simpa using hnot) hdue
  | cons g before ih =>
    refine fun point s h => ih (fun g' hg' => hbefore g' (by simp [hg'])) _ _ ?_
    have hdue := hevents point s h
    unfold State.runStage
    split
    · exact hbefore g (by simp) _ hdue
    · exact hdue

/-- The stages before the composition stage. -/
def stagesBefore (old : Option Image) (sent : Bool) : List (State → State) :=
  [fun s => s.speedSettling old sent, State.referenceStage, State.couplingStage]

/-- The stages after the composition stage. -/
def stagesAfter : List (State → State) := [State.monitoringStage, State.historyStage]

theorem cycleStages_eq (old : Option Image) (sent : Bool) :
    cycleStages old sent = stagesBefore old sent ++ (fun s => s.compositionStage old) :: stagesAfter := rfl

theorem State.stage_composesLike {old : Option Image} {sent : Bool} {f : State → State}
    (hf : f ∈ stagesBefore old sent ++ stagesAfter) (s : State) : s.ComposesLike (f s) := by
  simp only [stagesBefore, stagesAfter, List.cons_append, List.nil_append, List.mem_cons, List.not_mem_nil, or_false] at hf
  rcases hf with rfl | rfl | rfl | rfl | rfl <;> constructor <;> simp

/-- A stage other than the composition stage leaves the torques as due as they were. -/
theorem State.stage_composerDue {old due : Option Image} {sent : Bool} {f : State → State}
    (hf : f ∈ stagesBefore old sent ++ stagesAfter) {s : State} (h : s.composerDue due) : (f s).composerDue due := by
  have hstage : f ∈ cycleStages old sent := by
    rw [cycleStages_eq]
    simp only [List.mem_append, List.mem_cons] at hf ⊢
    exact hf.imp_right .inr
  have same := State.stage_composesLike hf s
  refine ⟨storesOk_kept.stage hstage h.1, ?_⟩
  rw [same.computing]
  exact fun hc => same.writtenOk (h.2 hc)

/-- The composition stage brings every torque into the Active range (R76). -/
theorem State.compositionStage_composerOk {old : Option Image} {s : State} (h : s.composerDue old) :
    (s.compositionStage old).composerOk := by
  obtain ⟨hstores, hdue⟩ := h
  refine ⟨storesOk_kept.stage (old := old) (sent := false) (f := fun u => u.compositionStage old) ?_ hstores,
    State.compositionStage_writtenOk hstores.2.1 fun hnone => hdue (.inr hnone)⟩
  simp [cycleStages]

/-- With no commit copy due, the start of a computation leaves the records and their range (R145, R157). -/
theorem State.startCycle_writtenOk {s : State} (himages : s.imagesOk) (h : s.writtenOk) {start : CycleStart}
    (hnone : (s.beginCycle start).replacedImage = none) : (s.startCycle start).writtenOk := by
  obtain ⟨-, -, -, hlive⟩ := himages
  have hnot : s.countCheck.images.commit.state ≠ .ready := fun hready => by
    rw [State.replacedImage, if_pos (by rw [State.beginCycle_images]; exact hready)] at hnone
    cases hnone
  have hactive : (s.startCycle start).active = applyLive s.active s.images.pendingLive := by
    rw [State.active, State.startCycle_images, State.startWork_images_of_not_ready start hnot]
    rfl
  rw [State.writtenOk_iff] at h ⊢
  intro r
  rw [hactive, applyLive_inRange _ hlive, applyLive_inRange _ hlive, applyLive_inRange _ hlive,
    show (s.startCycle start).composer = s.composer by simp]
  exact h r

theorem State.composerOk.startCycle {s : State} (h : s.composerOk) (start : CycleStart) :
    (s.startCycle start).composerDue (s.beginCycle start).replacedImage := by
  refine ⟨storesOk_kept.startCycle start h.1, fun hdue => ?_⟩
  have hrunning := s.startCycle_computing start
  rcases hdue with hcomputing | hnone
  · rw [hcomputing] at hrunning
    cases hrunning
  · exact State.startCycle_writtenOk h.1.2 h.2 hnone

section
variable {s : State}

theorem State.composerOk.computeCycle (h : s.composerOk) (start : CycleStart) (during : List MidEvent) (point : Nat) :
    (s.computeCycle start during point).composerOk := by
  rw [← State.composerDue_none_iff, State.computeCycle, cycleStages_eq]
  refine State.runFrom_reaches (P := State.composerDue (s.beginCycle start).replacedImage) (Q := State.composerDue none)
    (fun g hg u hu => ?_) (fun e _ u hu => State.takeEvent_composerDue hu e)
    (fun u hc hu => ⟨hu.1, fun _ => hu.2 (.inl hc)⟩) (fun u hu => ?_) (fun g hg u hu => ?_)
    (fun e _ u hu => State.takeEvent_composerDue hu e) point _ (h.startCycle start)
  · exact State.stage_composerDue (List.mem_append_left _ hg) hu
  · exact (State.composerDue_none_iff _).mpr (State.compositionStage_composerOk hu)
  · exact State.stage_composerDue (old := none) (sent := false) (List.mem_append_right _ hg) hu

/-! ### Commands -/

/-- A change that leaves the coupling and the composer as they are. -/
theorem State.composerOk.keep {t : State} (h : s.composerOk) (same : s.CouplesLike t := by constructor <;> simp)
    (hcomposer : t.composer = s.composer := by simp) : t.composerOk := by
  refine ⟨storesOk_kept.keep h.1 same, ?_⟩
  rw [State.writtenOk, hcomposer, State.active, same.images]
  exact h.2

theorem State.composerOk.tick (h : s.composerOk) (n : Nat) : (s.tick n).composerOk := h.keep

theorem State.composerOk.handDown (h : s.composerOk) (origin : DemandOrigin) (bytes : List Byte) (latency : Nat) :
    (s.handDown origin bytes latency).composerOk := by
  unfold State.handDown
  split
  · exact h.keep
  · exact h

theorem State.composerOk.runAccepted (h : s.composerOk) (course : Course) (point : Nat) :
    (s.runAccepted course point).composerOk := by
  unfold State.runAccepted
  split
  case h_1 bytes _ _ =>
    have hcomputed := h.computeCycle (.cell (demandSlots bytes)) course.during point
    exact State.composerOk.handDown hcomputed.keep _ _ _
  · exact h

theorem State.composerOk.demandComes (h : s.composerOk) (elapsed : Nat) (course : Course) (bytes : List Byte) :
    (s.demandComes elapsed course bytes).composerOk := by
  unfold State.demandComes
  split
  · exact ((h.tick elapsed).happens (.demandReception bytes)).runAccepted course 0
  · exact h.tick elapsed

theorem State.composerOk.substituteExpires (h : s.composerOk) (expiry : Nat) (course : Course) :
    (s.substituteExpires expiry course).composerOk := by
  have hmoment : (s.withClock (max s.clock expiry)).composerOk := h.keep
  exact ((hmoment.computeCycle (.substitute expiry) course.during 0).handDown _ _ _).runAccepted course 7

theorem State.composerOk.endReset (h : s.composerOk) : s.endReset.composerOk :=
  ⟨storesOk_kept.endReset h.1, s.endReset_composesLike.writtenOk h.2⟩

theorem State.resetBlocks_composerOk (s : State) : s.resetBlocks.composerOk :=
  ⟨storesOk_kept.resetBlocks s, s.resetBlocks_writtenOk⟩

theorem State.composerOk.request (h : s.composerOk) (kind : Byte) (area : RequestArea) :
    (s.request kind area).composerOk := by
  refine ⟨storesOk_kept.request kind area h.1, ?_⟩
  unfold State.request
  split
  · exact State.ComposesLike.writtenOk (by constructor <;> simp) h.2
  · exact h.2

/-- Every command is a reset, an event, the hand-over of a request or a computation. -/
theorem State.composerOk.exec (h : s.composerOk) (c : Instr) : ∃ t, Machine.exec c s = .next t ∧ t.composerOk := by
  cases c with
  | powerOn =>
    refine ⟨_, rfl, ?_⟩
    have hreset := (s.withPowered true).resetBlocks_composerOk
    split
    · exact hreset
    · exact hreset.endReset
  | resetInputAssert => exact ⟨_, rfl, State.resetBlocks_composerOk _⟩
  | powerFailure => exact ⟨_, rfl, State.resetBlocks_composerOk _⟩
  | resetInputRelease =>
    refine ⟨_, rfl, ?_⟩
    have hreleased : (s.withResetHeld false).composerOk := h.keep
    split
    · split
      · exact hreleased.endReset
      · exact hreleased
    · exact h
  | estopAssert => exact ⟨_, rfl, h.happens .estopAssert⟩
  | estopRelease => exact ⟨_, rfl, h.happens .estopRelease⟩
  | setupChange active => exact ⟨_, rfl, h.happens (.setupChange active)⟩
  | deadlineExpiry => exact ⟨_, rfl, h.happens .deadlineExpiry⟩
  | commitCheckEnd => exact ⟨_, rfl, h.happens .commitCheckEnd⟩
  | calibrationWriteEnd => exact ⟨_, rfl, h.happens .calibrationWriteEnd⟩
  | feedbackReception elapsed bytes =>
    refine ⟨_, rfl, ?_⟩
    split
    · exact (h.tick elapsed).happens (.feedbackReception bytes)
    · exact h.tick elapsed
  | feedbackSent elapsed =>
    refine ⟨_, rfl, ?_⟩
    split
    · exact (h.tick elapsed).happens .feedbackSent
    · exact h.tick elapsed
  | demandReception elapsed course bytes => exact ⟨_, rfl, h.demandComes elapsed course bytes⟩
  | demandSent elapsed course =>
    refine ⟨_, rfl, ?_⟩
    split
    · exact ((h.tick elapsed).happens .demandSent).runAccepted course 0
    · exact h.tick elapsed
  | substituteExpiry course =>
    refine ⟨_, rfl, ?_⟩
    split
    · split
      · exact h.substituteExpires _ course
      · exact h
    · exact h
  | engage g carrier | release g carrier | clear g carrier => exact ⟨_, rfl, h.demandComes _ _ _⟩
  | clearPart carrier | capture carrier | rearm carrier | clearRestart carrier => exact ⟨_, rfl, h.demandComes _ _ _⟩
  | read area | openTransfer area | transferData area | closeTransfer area | commit area | liveWrite area
  | setLiveWindow area | groupControl area | storeCalibration area | restart area | describe area =>
    exact ⟨_, rfl, h.request _ area⟩
  | unknownKind kind area => exact ⟨_, rfl, h.request kind area⟩

end

/-- Settles O12: the one change that moves a record's range is a commit copy, and the composition stage of the same
computation clamps the record into it, unless a reset abandons the computation and sets every torque to Clear. -/
theorem stepKeepsWrittenInRange : Obligations.StepKeepsWrittenInRange := by
  intro s t hqueue hheld himages hwritten hstep
  have hs : s.composerOk := ⟨⟨⟨hqueue, hheld⟩, himages⟩, hwritten⟩
  unfold step at hstep
  split at hstep
  · cases hstep
    exact hwritten
  case h_2 c rest _ =>
    have hrest : State.composerOk { s with pending := rest } := hs
    obtain ⟨u, hexec, hu⟩ := hrest.exec c
    rw [hexec] at hstep
    cases hstep
    exact hu.2

end Sys2Proof.Machine
end

section
/-! What a step can do to the Fault store and to the causes it shows (R90, R93 to R95, R100, R101). -/

namespace Sys2Proof.Machine

/-! ### The changes -/

/-- Whether a report leaves the cause of its key present: an occurrence of a lasting kind does (R94), an end does not (R95). -/
def Report.present : Report → Bool
  | .occurrence k _ => k.lasting
  | .ended _ _ => false

/-- The store and every cause stand as they stood. -/
structure State.CausesLike (s t : State) : Prop where
  faults : t.reaction.faults = s.reaction.faults
  cause : ∀ k c, t.cause k c = s.cause k c

/-- A report of a key is taken, with its cause as the report says, and no other cause changes. -/
structure State.Reports (p : Report) (s t : State) : Prop where
  scope : p.key.1.scopeKind = .part → p.key.2 = 0
  faults : ∃ cycle, t.reaction.faults = storeAfter cycle s.reaction.faults p
  reported : t.cause p.key.1 p.key.2 = p.present
  other : ∀ k c, (k, c) ≠ p.key → t.cause k c = s.cause k c

/-- Entries whose cause is absent are removed, and no cause changes (R100, R101). -/
structure State.Removes (s t : State) : Prop where
  faults : ∃ keeps : FaultEntry → Bool, (∀ f, f.causePresent = true → keeps f = true) ∧
    t.reaction.faults = s.reaction.faults.filter keeps
  cause : ∀ k c, t.cause k c = s.cause k c

/-- The momentary events a stage may report beside the changes of its causes: none of them is part-wide (R90). -/
def stageEvents (event : FaultKind → Chan → Prop) : Prop := ∀ k c, event k c → k.lasting = false ∧ k.scopeKind ≠ .part

/-- The elementary changes of the Fault store and of the causes the blocks keep. -/
inductive State.FaultStep (s t : State) : Prop
  | alike (same : s.CausesLike t)
  | report (p : Report) (h : State.Reports p s t)
  | stage (event : FaultKind → Chan → Prop) (hevents : stageEvents event) (h : s.reportsTo t event)
  | remove (h : s.Removes t)
  | reset (hfaults : t.reaction.faults = []) (hcauses : ∀ k c, t.cause k c = false)

/-- Any number of elementary changes. -/
def State.FaultsEvolve : State → State → Prop := Relation.ReflTransGen State.FaultStep

/-! ### Causes (R90) -/

/-- A momentary kind has no cause. -/
theorem State.lasting_of_cause {s : State} {k : FaultKind} {c : Chan} (h : s.cause k c = true) : k.lasting = true := by
  cases k <;> simp_all [State.cause, FaultKind.lasting]

/-- A part-wide cause has scope 0. -/
theorem State.scope_of_cause {s : State} {k : FaultKind} {c : Chan} (h : s.cause k c = true) (hpart : k.scopeKind = .part) :
    c = 0 := by
  cases k <;> simp_all [State.cause, FaultKind.scopeKind]

/-! ### The causes an entry shows (R93 to R95) -/

/-- The store shows the cause of a key as present. -/
def showsCause (faults : List FaultEntry) (key : FaultKind × Chan) : Prop :=
  ∃ f ∈ faults, f.key = key ∧ f.causePresent = true

theorem State.causesOk_iff (s : State) : s.causesOk ↔ ∀ k c, showsCause s.reaction.faults (k, c) ↔ s.cause k c = true := Iff.rfl

/-- A report leaves open what the entries of other keys show. -/
theorem showsCause_storeAfter_other {cycle : Word} {faults : List FaultEntry} {p : Report} {key : FaultKind × Chan}
    (h : key ≠ p.key) : showsCause (storeAfter cycle faults p) key ↔ showsCause faults key := by
  have hkept : ∀ f : FaultEntry, f.key = key → f.afterReports [p] cycle = f := fun f hf =>
    FaultEntry.afterReports_of_unreported (by simpa [hf] using h) cycle
  rw [storeAfter_eq]
  constructor
  · rintro ⟨e, he, hkey, hpresent⟩
    rcases List.mem_append.mp he with hmem | hmem
    · obtain ⟨f, hf, rfl⟩ := List.mem_map.mp hmem
      rw [FaultEntry.afterReports_key] at hkey
      rw [hkept f hkey] at hpresent
      exact ⟨f, hf, hkey, hpresent⟩
    · exact absurd (hkey.symm.trans (newEntry_key (Option.mem_toList.mp hmem))) h
  · rintro ⟨f, hf, hkey, hpresent⟩
    exact ⟨f, List.mem_append_left _ (List.mem_map.mpr ⟨f, hf, hkept f hkey⟩), hkey, hpresent⟩

/-- The entry of a report's key shows the cause as the report leaves it. -/
theorem showsCause_storeAfter_same (cycle : Word) (faults : List FaultEntry) (p : Report) :
    showsCause (storeAfter cycle faults p) p.key ↔ p.present = true := by
  cases p with
  | occurrence k c =>
    have hentry : ∀ f : FaultEntry, f.key = (k, c) → f.afterReports [.occurrence k c] cycle = f.again cycle := fun f hf => by
      obtain ⟨rfl, rfl⟩ := Prod.mk.inj hf
      exact if_pos (List.mem_singleton_self _)
    rw [storeAfter_eq]
    constructor
    · rintro ⟨e, he, hkey, hpresent⟩
      rcases List.mem_append.mp he with hmem | hmem
      · obtain ⟨f, hf, rfl⟩ := List.mem_map.mp hmem
        rw [FaultEntry.afterReports_key] at hkey
        rw [hentry f hkey] at hpresent
        obtain ⟨rfl, rfl⟩ := Prod.mk.inj hkey
        exact hpresent
      · simp only [newEntry] at hmem
        split at hmem
        · cases hmem
        · cases List.mem_singleton.mp hmem
          exact hpresent
    · intro hlasting
      by_cases hkey : (k, c) ∈ faults.map FaultEntry.key
      · obtain ⟨f, hf, hfk⟩ := List.mem_map.mp hkey
        refine ⟨f.again cycle, List.mem_append_left _ (List.mem_map.mpr ⟨f, hf, hentry f hfk⟩), hfk, ?_⟩
        obtain ⟨rfl, rfl⟩ := Prod.mk.inj hfk
        exact hlasting
      · refine ⟨⟨k, c, cycle, cycle, 1, k.lasting⟩, List.mem_append_right _ ?_, rfl, hlasting⟩
        exact Option.mem_toList.mpr (if_neg hkey)
  | ended k c =>
    refine iff_of_false ?_ Bool.false_ne_true
    rintro ⟨e, he, hkey, hpresent⟩
    obtain ⟨f, hf, rfl⟩ := List.mem_map.mp he
    split at hkey
    case isTrue h => simp [h] at hpresent
    case isFalse h => exact h ((f.hasKey_iff k c).mpr hkey)

/-- Entries with their cause present are not among those removed. -/
theorem showsCause_filter {faults : List FaultEntry} {keeps : FaultEntry → Bool}
    (hkeeps : ∀ f, f.causePresent = true → keeps f = true) (key : FaultKind × Chan) :
    showsCause (faults.filter keeps) key ↔ showsCause faults key := by
  constructor
  · rintro ⟨f, hf, h⟩
    exact ⟨f, (List.mem_filter.mp hf).1, h⟩
  · rintro ⟨f, hf, hkey, hpresent⟩
    exact ⟨f, List.mem_filter.mpr ⟨hf, hkeeps f hpresent⟩, hkey, hpresent⟩

end Sys2Proof.Machine
end

section
/-! The two invariants of the Fault store through one change of it (R90, R93 to R95). -/

namespace Sys2Proof.Machine

/-! ### What a stage's reports leave (R94, R95) -/

section
variable {s t : State} {event : FaultKind → Chan → Prop}

/-- What the reports of a stage can do to a key: its cause comes, goes, or stands, or an event of it occurs. -/
def State.occursTo (s t : State) (event : FaultKind → Chan → Prop) (k : FaultKind) (c : Chan) : Prop :=
  (s.cause k c = false ∧ t.cause k c = true) ∨ event k c

/-- The entry at a place after a stage: the one that stood there, renewed, ended or untouched. -/
theorem State.reportsTo.entryAt (h : s.reportsTo t event) {i : Nat} {f : FaultEntry} (hf : s.reaction.faults[i]? = some f) :
    ∃ e, t.reaction.faults[i]? = some e ∧
      ((s.occursTo t event f.kind f.scope ∧
          e = { f with last := s.timer.cycleCount, count := min 255 (f.count + 1), causePresent := f.kind.lasting }) ∨
        (t.cause f.kind f.scope = false ∧ e = { f with causePresent := false }) ∨
        (s.cause f.kind f.scope = t.cause f.kind f.scope ∧ e = f)) := by
  obtain ⟨hstands, -⟩ := h
  obtain ⟨hoccurs, hends, hneither⟩ := hstands i f hf
  by_cases hocc : s.occursTo t event f.kind f.scope
  · exact ⟨_, hoccurs hocc, .inl ⟨hocc, rfl⟩⟩
  by_cases hend : s.cause f.kind f.scope = true ∧ t.cause f.kind f.scope = false
  · exact ⟨_, hends hend, .inr (.inl ⟨hend.2, rfl⟩)⟩
  · refine ⟨f, hneither hocc hend, .inr (.inr ⟨?_, rfl⟩)⟩
    have hcomes : ¬ (s.cause f.kind f.scope = false ∧ t.cause f.kind f.scope = true) := fun hc => hocc (.inl hc)
    revert hcomes hend
    cases s.cause f.kind f.scope <;> cases t.cause f.kind f.scope <;> simp

/-- An entry after a stage is one from before it, renewed, ended or untouched, or one added for an occurrence. -/
theorem State.reportsTo.entry_cases (h : s.reportsTo t event) {e : FaultEntry} (he : e ∈ t.reaction.faults) :
    (∃ f ∈ s.reaction.faults,
      (s.occursTo t event f.kind f.scope ∧
          e = { f with last := s.timer.cycleCount, count := min 255 (f.count + 1), causePresent := f.kind.lasting }) ∨
        (t.cause f.kind f.scope = false ∧ e = { f with causePresent := false }) ∨
        (s.cause f.kind f.scope = t.cause f.kind f.scope ∧ e = f)) ∨
    (∃ k c, s.occursTo t event k c ∧ e = ⟨k, c, s.timer.cycleCount, s.timer.cycleCount, 1, k.lasting⟩) := by
  obtain ⟨i, hi⟩ := List.getElem?_of_mem he
  by_cases hlt : i < s.reaction.faults.length
  · obtain ⟨e', he', hcases⟩ := h.entryAt (List.getElem?_eq_getElem hlt)
    cases Option.some.inj (hi.symm.trans he')
    exact .inl ⟨_, List.getElem_mem hlt, hcases⟩
  · have hdrop : e ∈ t.reaction.faults.drop s.reaction.faults.length :=
      List.mem_of_getElem? (i := i - s.reaction.faults.length) (by rw [List.getElem?_drop, Nat.add_sub_cancel' (by omega), hi])
    obtain ⟨-, -, hadded, -⟩ := h
    obtain ⟨k, c, hocc, -, hnew⟩ := (hadded e).mp hdrop
    exact .inr ⟨k, c, hocc, hnew⟩

/-- The entries of before the stage keep their keys and places; the added ones follow. -/
theorem State.reportsTo.keys (h : s.reportsTo t event) :
    t.reaction.faults.map FaultEntry.key = s.reaction.faults.map FaultEntry.key ++
      (t.reaction.faults.drop s.reaction.faults.length).map FaultEntry.key := by
  have htaken : (t.reaction.faults.take s.reaction.faults.length).map FaultEntry.key =
      s.reaction.faults.map FaultEntry.key := by
    refine List.ext_getElem? fun i => ?_
    rw [List.getElem?_map, List.getElem?_map, List.getElem?_take]
    split
    case isTrue hlt =>
      obtain ⟨e, he, hcases⟩ := h.entryAt (List.getElem?_eq_getElem hlt)
      rw [he, List.getElem?_eq_getElem hlt]
      rcases hcases with ⟨-, rfl⟩ | ⟨-, rfl⟩ | ⟨-, rfl⟩ <;> rfl
    case isFalse hge => rw [List.getElem?_eq_none (by omega)]
  rw [← htaken, ← List.map_append, List.take_append_drop]

/-- A cause that comes has an entry that shows it, and one that stands keeps the entries that show it. -/
theorem State.reportsTo.showsCause_iff (h : s.reportsTo t event) (hevents : stageEvents event) (hs : s.causesOk)
    (k : FaultKind) (c : Chan) : showsCause t.reaction.faults (k, c) ↔ t.cause k c = true := by
  constructor
  · rintro ⟨e, he, hkey, hpresent⟩
    obtain ⟨rfl, rfl⟩ := Prod.mk.inj hkey
    have hcomes : ∀ k c, k.lasting = true → s.occursTo t event k c → t.cause k c = true := fun k c hlasting hocc => by
      rcases hocc with ⟨-, hc⟩ | hevent
      · exact hc
      · rw [(hevents _ _ hevent).1] at hlasting
        cases hlasting
    rcases h.entry_cases he with ⟨f, hf, ⟨hocc, rfl⟩ | ⟨-, rfl⟩ | ⟨hsame, rfl⟩⟩ | ⟨k, c, hocc, rfl⟩
    · exact hcomes _ _ hpresent hocc
    · cases hpresent
    · exact hsame ▸ (hs e.kind e.scope).mp ⟨e, hf, rfl, hpresent⟩
    · exact hcomes _ _ hpresent hocc
  · intro hcause
    cases hbefore : s.cause k c with
    | false =>
      obtain ⟨f, hf, hkey, hpresent, -⟩ := h.entry ⟨hbefore, hcause⟩
      exact ⟨f, hf, hkey, hpresent.trans (State.lasting_of_cause hcause)⟩
    | true =>
      obtain ⟨f, hf, hkey, hpresent⟩ := (hs k c).mpr hbefore
      obtain ⟨rfl, rfl⟩ := Prod.mk.inj hkey
      obtain ⟨i, hi⟩ := List.getElem?_of_mem hf
      obtain ⟨e, he, ⟨-, rfl⟩ | ⟨hgone, -⟩ | ⟨-, rfl⟩⟩ := h.entryAt hi
      · exact ⟨_, List.mem_of_getElem? he, rfl, State.lasting_of_cause hcause⟩
      · rw [hcause] at hgone
        cases hgone
      · exact ⟨_, List.mem_of_getElem? he, rfl, hpresent⟩

end

/-! ### Keys and entries (R93) -/

/-- The twelve kinds. -/
def faultKinds : List FaultKind :=
  [.linkLost, .estop, .demandCheck, .feedbackCheck, .feedbackStale, .speedImplausible, .driveFault, .groupLost, .syncWarn,
    .syncFault, .positionFault, .torqueSaturation]

/-- The 36 keys an entry may have: a part-wide kind has scope 0 alone. -/
def faultKeys : List (FaultKind × Chan) :=
  faultKinds.flatMap fun k => if k.scopeKind = .part then [(k, 0)] else channels.map fun c => (k, c)

theorem mem_faultKeys {k : FaultKind} {c : Chan} (h : k.scopeKind = .part → c = 0) : (k, c) ∈ faultKeys := by
  have hkind : k ∈ faultKinds := by cases k <;> decide
  refine List.mem_flatMap.mpr ⟨k, hkind, ?_⟩
  split
  case isTrue hpart => rw [h hpart]; exact List.mem_singleton_self _
  case isFalse => exact List.mem_map.mpr ⟨c, mem_channels c, rfl⟩

/-- What the Fault store asks of one entry. -/
def FaultEntry.ok (f : FaultEntry) : Prop :=
  1 ≤ f.count ∧ f.count ≤ 255 ∧ (f.causePresent = true → f.kind.lasting = true) ∧ (f.kind.scopeKind = .part → f.scope = 0)

/-- A store whose keys differ has at most as many entries as there are keys. -/
theorem State.faultsOk_of_entries {s : State} (hkeys : (s.reaction.faults.map FaultEntry.key).Nodup)
    (hentries : ∀ f ∈ s.reaction.faults, f.ok) : s.faultsOk := by
  have hsub : s.reaction.faults.map FaultEntry.key ⊆ faultKeys := fun x hx => by
    obtain ⟨f, hf, rfl⟩ := List.mem_map.mp hx
    obtain ⟨-, -, -, hscope⟩ := hentries f hf
    exact mem_faultKeys hscope
  refine ⟨hkeys, ?_, hentries⟩
  have hle := (List.subperm_of_subset hkeys hsub).length_le
  rwa [List.length_map, show faultKeys.length = 36 by decide] at hle

section
variable {f : FaultEntry} (h : f.ok)
include h

theorem FaultEntry.ok.renewed (last : Word) :
    FaultEntry.ok { f with last := last, count := min 255 (f.count + 1), causePresent := f.kind.lasting } := by
  obtain ⟨hlow, hhigh, -, hscope⟩ := h
  exact ⟨by dsimp only; omega, by dsimp only; omega, id, hscope⟩

theorem FaultEntry.ok.ended : FaultEntry.ok { f with causePresent := false } := by
  obtain ⟨hlow, hhigh, -, hscope⟩ := h
  exact ⟨hlow, hhigh, nofun, hscope⟩

theorem FaultEntry.ok.afterReports (ps : List Report) (cycle : Word) : (f.afterReports ps cycle).ok := by
  unfold FaultEntry.afterReports
  split
  · rw [FaultEntry.again, satInc_eq_min]
    exact h.renewed cycle
  · split
    · exact h.ended
    · exact h

end

/-- The entry of a first occurrence (R94). -/
theorem FaultEntry.ok_new {k : FaultKind} {c : Chan} (h : k.scopeKind = .part → c = 0) (cycle : Word) :
    FaultEntry.ok ⟨k, c, cycle, cycle, 1, k.lasting⟩ := ⟨le_rfl, by dsimp only; omega, id, h⟩

/-! ### The invariants through one change -/

section
variable {s t : State}

theorem State.Reports.faultsOk {p : Report} (h : State.Reports p s t) (hs : s.faultsOk) : t.faultsOk := by
  obtain ⟨hkeys, -, hentries⟩ := hs
  obtain ⟨cycle, hfaults⟩ := h.faults
  rw [storeAfter_eq] at hfaults
  have hmap : (s.reaction.faults.map (FaultEntry.afterReports · [p] cycle)).map FaultEntry.key =
      s.reaction.faults.map FaultEntry.key := by
    rw [List.map_map]
    exact List.map_congr_left fun f _ => f.afterReports_key [p] cycle
  cases hnew : newEntry s.reaction.faults cycle p with
  | none =>
    rw [hnew, Option.toList_none, List.append_nil] at hfaults
    refine State.faultsOk_of_entries (by rw [hfaults, hmap]; exact hkeys) fun e he => ?_
    obtain ⟨f, hf, rfl⟩ := List.mem_map.mp (hfaults ▸ he)
    exact FaultEntry.ok.afterReports (hentries f hf) _ _
  | some e =>
    rw [hnew, Option.toList_some] at hfaults
    obtain ⟨k, c, hp, hnone, rfl⟩ := mem_newEntries.mp (List.mem_filterMap.mpr ⟨p, List.mem_singleton_self p, hnew⟩)
    cases List.mem_singleton.mp hp
    refine State.faultsOk_of_entries ?_ fun e he => ?_
    · rw [hfaults, List.map_append, hmap]
      refine List.nodup_append'.mpr ⟨hkeys, List.nodup_singleton _, List.disjoint_singleton.mpr fun hmem => ?_⟩
      obtain ⟨f, hf, hkey⟩ := List.mem_map.mp hmem
      exact hnone f hf hkey
    · rcases List.mem_append.mp (hfaults ▸ he) with hmem | hmem
      · obtain ⟨f, hf, rfl⟩ := List.mem_map.mp hmem
        exact FaultEntry.ok.afterReports (hentries f hf) _ _
      · cases List.mem_singleton.mp hmem
        exact FaultEntry.ok_new h.scope cycle

theorem State.reportsTo.faultsOk {event : FaultKind → Chan → Prop} (h : s.reportsTo t event) (hevents : stageEvents event)
    (hs : s.faultsOk) : t.faultsOk := by
  obtain ⟨hkeys, -, hentries⟩ := hs
  have hscope : ∀ k c, s.occursTo t event k c → k.scopeKind = .part → c = 0 := fun k c hocc hpart => by
    rcases hocc with ⟨-, hcause⟩ | hevent
    · exact State.scope_of_cause hcause hpart
    · exact absurd hpart (hevents k c hevent).2
  refine State.faultsOk_of_entries ?_ fun e he => ?_
  · rw [h.keys]
    obtain ⟨-, hadded, hnew, -⟩ := h
    refine List.nodup_append'.mpr ⟨hkeys, hadded, fun key hbefore hafter => ?_⟩
    obtain ⟨f, hf, rfl⟩ := List.mem_map.mp hbefore
    obtain ⟨e, he, hkey⟩ := List.mem_map.mp hafter
    obtain ⟨k, c, -, hnone, rfl⟩ := (hnew e).mp he
    exact hnone f hf hkey.symm
  · rcases h.entry_cases he with ⟨f, hf, ⟨-, rfl⟩ | ⟨-, rfl⟩ | ⟨-, rfl⟩⟩ | ⟨k, c, hocc, rfl⟩
    · exact FaultEntry.ok.renewed (hentries f hf) _
    · exact FaultEntry.ok.ended (hentries f hf)
    · exact hentries e hf
    · exact FaultEntry.ok_new (hscope k c hocc) _

theorem State.FaultStep.faultsOk (h : s.FaultStep t) (hs : s.faultsOk) : t.faultsOk := by
  cases h with
  | alike same => rwa [State.faultsOk, same.faults]
  | report p h => exact h.faultsOk hs
  | stage event hevents h => exact h.faultsOk hevents hs
  | remove h =>
    obtain ⟨hkeys, -, hentries⟩ := hs
    obtain ⟨keeps, -, hfaults⟩ := h.faults
    refine State.faultsOk_of_entries ?_ fun f hf => ?_
    · rw [hfaults]
      exact (List.filter_sublist.map _).nodup hkeys
    · exact hentries f (List.mem_filter.mp (hfaults ▸ hf)).1
  | reset hfaults => exact State.faultsOk_of_entries (by simp [hfaults]) (by simp [hfaults])

theorem State.FaultStep.causesOk (h : s.FaultStep t) (hs : s.causesOk) : t.causesOk := by
  rw [State.causesOk_iff] at hs ⊢
  intro k c
  cases h with
  | alike same => rw [same.faults, same.cause, hs]
  | report p h =>
    obtain ⟨cycle, hfaults⟩ := h.faults
    rw [hfaults]
    by_cases hkey : (k, c) = p.key
    · have hcause := h.reported
      rw [← hkey] at hcause
      rw [hkey, showsCause_storeAfter_same, ← hcause]
    · rw [showsCause_storeAfter_other hkey, h.other k c hkey, hs]
  | stage event hevents h => exact h.showsCause_iff hevents hs k c
  | remove h =>
    obtain ⟨keeps, hkeeps, hfaults⟩ := h.faults
    rw [hfaults, showsCause_filter hkeeps, h.cause, hs]
  | reset hfaults hcauses => simp [showsCause, hfaults, hcauses]

theorem State.FaultsEvolve.faultsOk (h : s.FaultsEvolve t) (hs : s.faultsOk) : t.faultsOk := by
  induction h with
  | refl => exact hs
  | tail _ hstep ih => exact hstep.faultsOk ih

theorem State.FaultsEvolve.causesOk (h : s.FaultsEvolve t) (hs : s.causesOk) : t.causesOk := by
  induction h with
  | refl => exact hs
  | tail _ hstep ih => exact hstep.causesOk ih

end

end Sys2Proof.Machine
end

section
/-! Every command changes the Fault store and the causes by such changes alone (R90, R93 to R95). -/

namespace Sys2Proof.Machine

/-! ### Single changes -/

section
variable {s t u : State}

/-- What the store and the causes are read from. -/
theorem State.causesLike_of_records
    (hreaction : t.reaction.faults = s.reaction.faults ∧ t.reaction.estopCause = s.reaction.estopCause := by simp)
    (hlink : t.timer.link = s.timer.link := by simp)
    (hacq : ∀ r, (t.acq.get r).feedbackStale = (s.acq.get r).feedbackStale ∧
      (t.acq.get r).driveFault = (s.acq.get r).driveFault := by simp)
    (hgroup : ∀ g, (t.groupRef.get g).groupLost = (s.groupRef.get g).groupLost := by simp)
    (hmonitor : t.monitor = s.monitor := by simp) (hcomposer : t.composer = s.composer := by simp) : s.CausesLike t := by
  refine ⟨hreaction.1, fun k c => ?_⟩
  cases k <;> simp [State.cause, hreaction.2, hlink, hacq, hgroup, hmonitor, hcomposer]

theorem State.FaultsEvolve.trans (h : s.FaultsEvolve t) (h' : t.FaultsEvolve u) : s.FaultsEvolve u :=
  Relation.ReflTransGen.trans h h'

theorem State.FaultsEvolve.refl (s : State) : s.FaultsEvolve s := Relation.ReflTransGen.refl

theorem State.FaultStep.evolve (h : s.FaultStep t) : s.FaultsEvolve t := Relation.ReflTransGen.single h

/-- The rules on what each operation leaves unchanged say that it leaves the store and the causes. -/
theorem State.FaultsEvolve.of_alike (h : s.CausesLike t := by exact State.causesLike_of_records) : s.FaultsEvolve t :=
  (State.FaultStep.alike h).evolve

/-- Changes may be followed, or preceded, by one that leaves the store and the causes. -/
theorem State.FaultsEvolve.keep (h : s.FaultsEvolve t) (same : t.CausesLike u := by exact State.causesLike_of_records) :
    s.FaultsEvolve u := h.trans (.of_alike same)

theorem State.FaultsEvolve.after (h : t.FaultsEvolve u) (same : s.CausesLike t := by exact State.causesLike_of_records) :
    s.FaultsEvolve u := (State.FaultsEvolve.of_alike same).trans h

/-- An occurrence is taken with its cause as the kind has it (R94). -/
theorem State.FaultsEvolve.of_occurrence {k : FaultKind} {c : Chan} (hscope : k.scopeKind = .part → c = 0)
    (hcause : u.cause k c = k.lasting) (hother : ∀ k' c', (k', c') ≠ (k, c) → u.cause k' c' = s.cause k' c')
    (hfaults : u.reaction.faults = s.reaction.faults := by rfl) : s.FaultsEvolve (u.occurrence k c) := by
  have hcauses : ∀ k' c', (u.occurrence k c).cause k' c' = u.cause k' c' := fun k' c' => u.takeReports_cause [.occurrence k c] k' c'
  refine (State.FaultStep.report (.occurrence k c)
    ⟨hscope, ⟨u.timer.cycleCount, ?_⟩, (hcauses k c).trans hcause, fun k' c' h => (hcauses k' c').trans (hother k' c' h)⟩).evolve
  rw [← hfaults]
  exact u.takeReport_faults (.occurrence k c)

/-- An end is taken with its cause absent (R95). -/
theorem State.FaultsEvolve.of_causeEnds {k : FaultKind} {c : Chan} (hscope : k.scopeKind = .part → c = 0)
    (hcause : u.cause k c = false) (hother : ∀ k' c', (k', c') ≠ (k, c) → u.cause k' c' = s.cause k' c')
    (hfaults : u.reaction.faults = s.reaction.faults := by rfl) : s.FaultsEvolve (u.causeEnds k c) := by
  have hcauses : ∀ k' c', (u.causeEnds k c).cause k' c' = u.cause k' c' := fun k' c' => u.takeReports_cause [.ended k c] k' c'
  refine (State.FaultStep.report (.ended k c)
    ⟨hscope, ⟨u.timer.cycleCount, ?_⟩, (hcauses k c).trans hcause, fun k' c' h => (hcauses k' c').trans (hother k' c' h)⟩).evolve
  rw [← hfaults]
  exact u.takeReport_faults (.ended k c)

end

section
variable (s : State)

/-! ### The lines (R104) -/

/-- The ESTOP cause set to a value and no other cause (R104). -/
theorem State.cause_withEstopCause (b : Bool) :
    (s.withReaction { s.reaction with estopCause := b }).cause .estop 0 = b ∧
    ∀ k c, (k, c) ≠ (.estop, 0) → (s.withReaction { s.reaction with estopCause := b }).cause k c = s.cause k c := by
  refine ⟨by simp [State.cause], fun k c hne => ?_⟩
  cases k with
  | estop =>
    have hc : (c == 0) = false := beq_false_of_ne fun hc => hne (hc ▸ rfl)
    simp [State.cause, hc]
  | _ => rfl

theorem State.takesEstop_evolve :
    s.FaultsEvolve ((s.withReaction { s.reaction with estopCause := true }).occurrence .estop 0) :=
  .of_occurrence (fun _ => rfl) (s.cause_withEstopCause true).1 (s.cause_withEstopCause true).2

theorem State.assertEstop_evolve : s.FaultsEvolve s.assertEstop := by
  have hinput : s.FaultsEvolve (s.withEstopInput true) := .of_alike
  unfold State.assertEstop
  dsimp only
  split
  · exact hinput.trans (State.takesEstop_evolve _)
  · exact hinput

theorem State.releaseEstop_evolve : s.FaultsEvolve s.releaseEstop := by
  have hinput : s.FaultsEvolve (s.withEstopInput false) := .of_alike
  obtain ⟨hcause, hother⟩ := (s.withEstopInput false).cause_withEstopCause false
  unfold State.releaseEstop
  dsimp only
  split
  · exact hinput.trans (.of_causeEnds (fun _ => rfl) hcause hother)
  · exact hinput

theorem State.changeSetup_evolve (b : Bool) : s.FaultsEvolve (s.changeSetup b) := .of_alike

theorem State.resetBlocks_evolve : s.FaultsEvolve s.resetBlocks := by
  refine (State.FaultStep.reset rfl fun k c => ?_).evolve
  cases k <;> simp [State.cause, State.resetBlocks, State.reset, Acquisition.reset, GroupReference.reset, Monitor.reset,
    Composer.reset, Reaction.reset, Timer.reset]

theorem State.endReset_evolve : s.FaultsEvolve s.endReset := by
  have hline : s.FaultsEvolve (s.withImages { s.images with setupLine := s.setupInput }) := .of_alike
  unfold State.endReset
  dsimp only
  split
  · exact hline.trans (State.takesEstop_evolve _)
  · exact hline

/-! ### The link (R134, R135, R139) -/

/-- A link state stands for the LINK_LOST cause and no other (R90). -/
theorem State.cause_withTimer (t : Timer) :
    (s.withTimer t).cause .linkLost 0 = (t.link == .lost) ∧
    ∀ k c, (k, c) ≠ (.linkLost, 0) → (s.withTimer t).cause k c = s.cause k c := by
  refine ⟨by simp [State.cause], fun k c hne => ?_⟩
  cases k with
  | linkLost =>
    have hc : (c == 0) = false := beq_false_of_ne fun hc => hne (hc ▸ rfl)
    simp [State.cause, hc]
  | _ => rfl

theorem State.deadlineComes_evolve : s.FaultsEvolve s.deadlineComes := by
  have hexpires : ∀ d, s.FaultsEvolve (s.deadlineExpires d) := fun d => by
    obtain ⟨hcause, hother⟩ := (s.withClock (max s.clock d)).cause_withTimer { s.timer with link := .lost, deadline := none }
    have hlost := State.FaultsEvolve.of_occurrence (s := s.withClock (max s.clock d)) (k := .linkLost) (fun _ => rfl)
      hcause hother
    unfold State.deadlineExpires
    exact hlost.after.keep
  unfold State.deadlineComes
  split
  · split
    · exact hexpires _
    · exact .refl s
  · exact .refl s

theorem State.validDemand_evolve (moment : Nat) : s.FaultsEvolve (s.validDemand moment) := by
  unfold State.validDemand
  dsimp only
  split
  case isTrue =>
    obtain ⟨hcause, hother⟩ := s.cause_withTimer { s.timer with
      link := .up, nextExpiry := none, deadline := some (moment + s.active.linkTimeout * s.active.period) }
    exact .of_causeEnds (fun _ => rfl) hcause hother
  case isFalse hlost =>
    refine .of_alike ⟨rfl, fun k c => ?_⟩
    cases k with
    | linkLost => simp [State.cause, beq_false_of_ne hlost]
    | _ => rfl

/-! ### Telegrams in passage -/

@[simp] theorem State.transmit_acq_causes (o : Outgoing) (m : Nat) (r : Chan) :
    ((s.transmit o m).acq.get r).feedbackStale = (s.acq.get r).feedbackStale ∧
    ((s.transmit o m).acq.get r).driveFault = (s.acq.get r).driveFault := by
  unfold State.transmit
  split <;> simp

theorem State.driveReady_evolve (o : Outgoing) (m : Nat) : s.FaultsEvolve (s.driveReady o m) := by
  unfold State.driveReady
  split <;> exact .of_alike

theorem State.sendNext_evolve : s.FaultsEvolve s.sendNext := by
  unfold State.sendNext
  split <;> exact .of_alike

/-- A reception found bad is an occurrence of a momentary kind (R90, R126, R130). -/
theorem State.FaultsEvolve.of_momentary {s u : State} {k : FaultKind} (hmomentary : k.lasting = false) (h : s.CausesLike u) :
    s.FaultsEvolve (u.occurrence k 0) := by
  refine .of_occurrence (fun _ => rfl) ?_ (fun k' c' _ => h.cause k' c') h.faults
  rw [hmomentary, Bool.eq_false_iff]
  exact fun hcause => Bool.false_ne_true (hmomentary.symm.trans (State.lasting_of_cause hcause))

theorem State.demandPassage_evolve (bytes : List Byte) (m : Nat) : s.FaultsEvolve (s.demandPassage bytes m) := by
  have htold := s.validDemand_evolve m
  have hbad : s.FaultsEvolve (s.badDemand bytes) := by
    have hcounted : s.FaultsEvolve ((s.withCellPort { s.cellPort with
        demandErrors := satInc 65535 s.cellPort.demandErrors }).occurrence .demandCheck 0) :=
      .of_momentary rfl State.causesLike_of_records
    unfold State.badDemand
    dsimp only
    split
    · exact hcounted
    · exact hcounted.trans (State.driveReady_evolve _ _ _)
  unfold State.demandPassage State.goodDemandPassage
  split
  · split
    · exact htold.keep (State.causesLike_of_records (hlink := rfl))
    · refine htold.trans ?_
      unfold State.takeRequest State.accept
      split <;> exact .of_alike
  · exact hbad

theorem State.receiveDemand_evolve (bytes : List Byte) : s.FaultsEvolve (s.receiveDemand bytes) := by
  unfold State.receiveDemand
  split
  · exact .of_alike
  · exact s.demandPassage_evolve _ _

theorem State.finishDemand_evolve : s.FaultsEvolve s.finishDemand := by
  unfold State.finishDemand
  split
  · exact .refl s
  · have hnext : s.FaultsEvolve (s.withDrivePort { s.drivePort with sending := none }).sendNext :=
      (State.sendNext_evolve _).after
    unfold State.beginWaitingDemand
    split
    · exact hnext
    · split
      · exact hnext
      · exact hnext.keep.trans (State.demandPassage_evolve _ _ _)

/-- The examination of a slot leaves the causes of its roller (R5, R6). -/
@[simp] theorem Acquisition.examine_causes (a : Acquisition) (window : Option Half) (echo : Half) (position : Word)
    (status : DriveStatus) :
    (a.examine window echo position status).feedbackStale = a.feedbackStale ∧
    (a.examine window echo position status).driveFault = a.driveFault := by
  unfold Acquisition.examine
  split
  · split <;> exact ⟨rfl, rfl⟩
  · exact ⟨rfl, rfl⟩

theorem State.examineSlots_evolve (bytes : List Byte) : s.FaultsEvolve (s.examineSlots bytes) :=
  .of_alike (State.causesLike_of_records (hacq := by simp [State.examineSlots]))

theorem State.feedbackPassage_evolve (bytes : List Byte) : s.FaultsEvolve (s.feedbackPassage bytes) := by
  have hbad : s.FaultsEvolve (s.badFeedback bytes) := by
    have hcounted : s.FaultsEvolve ((s.withDrivePort { s.drivePort with
        feedbackErrors := satInc 65535 s.drivePort.feedbackErrors }).occurrence .feedbackCheck 0) :=
      .of_momentary rfl State.causesLike_of_records
    unfold State.badFeedback
    dsimp only
    split
    · exact hcounted
    · exact hcounted.trans .of_alike
  unfold State.feedbackPassage
  split
  · exact (s.examineSlots_evolve bytes).trans .of_alike
  · exact hbad

theorem State.receiveFeedback_evolve (bytes : List Byte) : s.FaultsEvolve (s.receiveFeedback bytes) := by
  unfold State.receiveFeedback
  split
  · exact .of_alike
  · exact s.feedbackPassage_evolve bytes

theorem State.beginWaitingFeedback_evolve : s.FaultsEvolve s.beginWaitingFeedback := by
  unfold State.beginWaitingFeedback
  split
  · exact .refl s
  · exact (State.feedbackPassage_evolve _ _).after

theorem State.finishFeedback_evolve : s.FaultsEvolve s.finishFeedback := by
  have hsent : s.FaultsEvolve (s.withCellPort { s.cellPort with sending := none }) := .of_alike
  unfold State.finishFeedback
  split
  · exact .refl s
  · dsimp only
    split
    · split
      · exact (hsent.trans (State.resetBlocks_evolve _)).trans (State.endReset_evolve _)
      · exact hsent.keep.trans (State.beginWaitingFeedback_evolve _)
    · exact hsent.trans (State.beginWaitingFeedback_evolve _)

theorem State.happens_evolve (e : Event) : s.FaultsEvolve (s.happens e) := by
  cases e with
  | estopAssert => exact s.assertEstop_evolve
  | estopRelease => exact s.releaseEstop_evolve
  | setupChange active => exact s.changeSetup_evolve active
  | demandReception bytes => exact s.receiveDemand_evolve bytes
  | demandSent => exact s.finishDemand_evolve
  | feedbackReception bytes => exact s.receiveFeedback_evolve bytes
  | feedbackSent => exact s.finishFeedback_evolve
  | deadlineExpiry => exact s.deadlineComes_evolve
  | commitCheckEnd => exact .of_alike (t := s.checkEnds)
  | calibrationWriteEnd => exact .of_alike (t := s.writeEnds)

theorem State.tick_evolve (n : Nat) : s.FaultsEvolve (s.tick n) := .of_alike

theorem State.takeEvent_evolve (e : MidEvent) : s.FaultsEvolve (s.takeEvent e) := by
  unfold State.takeEvent
  split
  · exact (s.tick_evolve _).trans (State.happens_evolve _ _)
  · exact .refl s

/-! ### Computations -/

/-- A set's removals are of entries whose cause is absent (R100, R101). -/
theorem State.performSet_evolve (w : Word) : s.FaultsEvolve (s.performSet w) := by
  have hlost : ∀ g, (s.recounted w g).groupLost = (s.groupRef.get g).groupLost := fun g => by
    unfold State.recounted
    split <;> rfl
  refine (State.FaultStep.remove ⟨⟨fun f => !removable s.active w f, fun f hf => ?_, ?_⟩, fun k c => ?_⟩).evolve
  · simp [removable, hf]
  · rw [State.performSet_reaction]
    rfl
  · cases k <;> simp [State.cause, State.performSet_reaction, State.performSet_groupRef, hlost]

theorem State.startCycle_evolve (start : CycleStart) : s.FaultsEvolve (s.startCycle start) := by
  have hlink : (s.startWork start).timer.link = s.timer.link := by
    cases start <;> simp [State.startWork, State.beginCycle, State.advanceCycle, State.scheduleNext]
  have hwork : s.FaultsEvolve (s.startWork start) :=
    .of_alike (State.causesLike_of_records (hreaction := by simp [State.startWork_reaction]) (hlink := hlink) (hacq := fun r => by
      simp only [State.startWork, State.applyExclusions, State.withReaction_acq, State.withAcq_acq, Quad.get_ofFn]
      split <;> cases start <;> simp))
  unfold State.startCycle State.groupFunctionPoint
  split
  case h_1 q _ _ _ =>
    split
    · exact (hwork.trans (State.performSet_evolve _ (q.dataWord 0))).keep
    · exact hwork
  · exact hwork

/-- A stage that reports the changes of its causes is one change. -/
theorem State.reportsCauses.evolve {s t : State} (h : s.reportsCauses t) : s.FaultsEvolve t :=
  (State.FaultStep.stage _ (fun _ _ hevent => hevent.elim) h).evolve

theorem State.compositionStage_reportsCauses (old : Option Image) : s.reportsCauses (s.compositionStage old) := by
  rw [State.compositionStage, State.compositionReports_eq]
  exact State.reportsCauses_of_changes (List.nodup_singleton _) ⟨rfl, rfl, rfl, rfl, rfl⟩
    fun k hk c => s.composedState_cause old hk c

theorem State.stage_evolve {old : Option Image} {sent : Bool} {f : State → State} (hf : f ∈ cycleStages old sent) :
    s.FaultsEvolve (f s) := by
  simp only [cycleStages, List.mem_cons, List.not_mem_nil, or_false] at hf
  rcases hf with rfl | rfl | rfl | rfl | rfl | rfl
  · refine (State.FaultStep.stage _ (fun k c hevent => ?_) (s.speedSettling_reportsTo old sent)).evolve
    rw [hevent.1]
    exact ⟨rfl, nofun⟩
  · exact s.referenceStage_reportsCauses.evolve
  · exact .of_alike (t := s.couplingStage)
  · exact (s.compositionStage_reportsCauses old).evolve
  · exact s.monitoringStage_reportsCauses.evolve
  · exact .of_alike (t := s.historyStage)

theorem State.computeCycle_evolve (start : CycleStart) (during : List MidEvent) (point : Nat) :
    s.FaultsEvolve (s.computeCycle start during point) :=
  State.runFrom_keeps (fun _ hf _ hu => hu.trans (State.stage_evolve _ hf)) (fun e _ _ hu => hu.trans (State.takeEvent_evolve _ e))
    point _ (s.startCycle_evolve start)

theorem State.handDown_evolve (origin : DemandOrigin) (bytes : List Byte) (latency : Nat) :
    s.FaultsEvolve (s.handDown origin bytes latency) := by
  have hended : s.FaultsEvolve s.endCycle := .of_alike (State.causesLike_of_records (hlink := rfl))
  unfold State.handDown
  split
  · exact hended.trans (State.driveReady_evolve _ _ _)
  · exact .refl s

theorem State.runAccepted_evolve (course : Course) (point : Nat) : s.FaultsEvolve (s.runAccepted course point) := by
  unfold State.runAccepted
  split
  case h_1 bytes _ _ =>
    exact (s.computeCycle_evolve (.cell (demandSlots bytes)) course.during point).keep.trans (State.handDown_evolve _ _ _ _)
  · exact .refl s

/-! ### Commands -/

theorem State.demandComes_evolve (elapsed : Nat) (course : Course) (bytes : List Byte) :
    s.FaultsEvolve (s.demandComes elapsed course bytes) := by
  unfold State.demandComes
  split
  · exact ((s.tick_evolve elapsed).trans (State.receiveDemand_evolve _ _)).trans (State.runAccepted_evolve _ _ _)
  · exact s.tick_evolve elapsed

theorem State.substituteExpires_evolve (expiry : Nat) (course : Course) : s.FaultsEvolve (s.substituteExpires expiry course) := by
  have hcomputed := ((s.withClock (max s.clock expiry)).computeCycle_evolve (.substitute expiry) course.during 0).after (s := s)
  exact (hcomputed.trans (State.handDown_evolve _ _ _ _)).trans (State.runAccepted_evolve _ _ _)

theorem State.request_evolve (kind : Byte) (area : RequestArea) : s.FaultsEvolve (s.request kind area) := by
  unfold State.request
  split
  · exact .of_alike
  · exact .refl s

/-- Every command is a reset, an event, the hand-over of a request or a computation. -/
theorem exec_evolve (c : Instr) : ∃ t, exec c s = .next t ∧ s.FaultsEvolve t := by
  cases c with
  | powerOn =>
    refine ⟨_, rfl, ?_⟩
    have hreset : s.FaultsEvolve (s.withPowered true).resetBlocks :=
      (State.resetBlocks_evolve _).after
    split
    · exact hreset
    · exact hreset.trans (State.endReset_evolve _)
  | resetInputAssert => exact ⟨_, rfl, (s.withResetHeld true).resetBlocks_evolve.after⟩
  | powerFailure => exact ⟨_, rfl, (s.withPowered false).resetBlocks_evolve.after⟩
  | resetInputRelease =>
    refine ⟨_, rfl, ?_⟩
    have hreleased : s.FaultsEvolve (s.withResetHeld false) := .of_alike
    split
    · split
      · exact hreleased.trans (State.endReset_evolve _)
      · exact hreleased
    · exact .refl s
  | estopAssert => exact ⟨_, rfl, s.happens_evolve .estopAssert⟩
  | estopRelease => exact ⟨_, rfl, s.happens_evolve .estopRelease⟩
  | setupChange active => exact ⟨_, rfl, s.happens_evolve (.setupChange active)⟩
  | deadlineExpiry => exact ⟨_, rfl, s.happens_evolve .deadlineExpiry⟩
  | commitCheckEnd => exact ⟨_, rfl, s.happens_evolve .commitCheckEnd⟩
  | calibrationWriteEnd => exact ⟨_, rfl, s.happens_evolve .calibrationWriteEnd⟩
  | feedbackReception elapsed bytes =>
    refine ⟨_, rfl, ?_⟩
    split
    · exact (s.tick_evolve elapsed).trans (State.receiveFeedback_evolve _ _)
    · exact s.tick_evolve elapsed
  | feedbackSent elapsed =>
    refine ⟨_, rfl, ?_⟩
    split
    · exact (s.tick_evolve elapsed).trans (State.finishFeedback_evolve _)
    · exact s.tick_evolve elapsed
  | demandReception elapsed course bytes => exact ⟨_, rfl, s.demandComes_evolve elapsed course bytes⟩
  | demandSent elapsed course =>
    refine ⟨_, rfl, ?_⟩
    split
    · exact ((s.tick_evolve elapsed).trans (State.finishDemand_evolve _)).trans (State.runAccepted_evolve _ _ _)
    · exact s.tick_evolve elapsed
  | substituteExpiry course =>
    refine ⟨_, rfl, ?_⟩
    split
    · split
      · exact s.substituteExpires_evolve _ course
      · exact .refl s
    · exact .refl s
  | engage g carrier | release g carrier | clear g carrier => exact ⟨_, rfl, s.demandComes_evolve _ _ _⟩
  | clearPart carrier | capture carrier | rearm carrier | clearRestart carrier => exact ⟨_, rfl, s.demandComes_evolve _ _ _⟩
  | read area | openTransfer area | transferData area | closeTransfer area | commit area | liveWrite area
  | setLiveWindow area | groupControl area | storeCalibration area | restart area | describe area =>
    exact ⟨_, rfl, s.request_evolve _ area⟩
  | unknownKind kind area => exact ⟨_, rfl, s.request_evolve kind area⟩

theorem step_evolve {s t : State} (hstep : step s = .next t) : s.FaultsEvolve t := by
  unfold step at hstep
  split at hstep
  · cases hstep
    exact .refl s
  case h_2 c rest _ =>
    obtain ⟨u, hexec, hu⟩ := exec_evolve { s with pending := rest } c
    rw [hexec] at hstep
    cases hstep
    exact hu.after

end

/-- Settles O7: every change of the store keeps the keys of its entries apart and each entry in order, and there are 36
keys. -/
theorem stepKeepsFaultStore : Obligations.StepKeepsFaultStore := fun _ _ h hstep => (step_evolve hstep).faultsOk h

/-- Settles O8: a report leaves its key's entry as it leaves the cause, a removal takes entries without a cause, and
nothing else changes either. -/
theorem stepKeepsCausesShown : Obligations.StepKeepsCausesShown := fun _ _ h hstep => (step_evolve hstep).causesOk h

end Sys2Proof.Machine
end

section
/-! One step, and the waiting commands it leaves (R90, R162; log entries 1, 3 and 4). -/

namespace Sys2Proof.Machine

/-! ### The step -/

theorem step_of_waiting {s : State} {c : Instr} {rest : List Instr} (h : s.pending = c :: rest) :
    step s = exec c { s with pending := rest } := by
  rw [step, h]

theorem step_of_idle {s : State} (h : s.pending = []) : step s = .next s := by
  rw [step, h]

section
variable {s : State} (halive : s.alive = true)
include halive

theorem exec_feedbackReception_of_alive (elapsed : Nat) (bytes : List Byte) :
    exec (.feedbackReception elapsed bytes) s = .next ((s.tick elapsed).receiveFeedback bytes) :=
  congrArg Host.Outcome.next (if_pos halive)

theorem exec_feedbackSent_of_alive (elapsed : Nat) :
    exec (.feedbackSent elapsed) s = .next (s.tick elapsed).finishFeedback := congrArg Host.Outcome.next (if_pos halive)

theorem exec_demandReception_of_alive (elapsed : Nat) (course : Course) (bytes : List Byte) :
    exec (.demandReception elapsed course bytes) s = .next (((s.tick elapsed).receiveDemand bytes).runAccepted course 0) :=
  congrArg Host.Outcome.next (if_pos halive)

theorem exec_demandSent_of_alive (elapsed : Nat) (course : Course) :
    exec (.demandSent elapsed course) s = .next ((s.tick elapsed).finishDemand.runAccepted course 0) :=
  congrArg Host.Outcome.next (if_pos halive)

end

/-- Settles O1: the untimed commands are their events, and the timed ones are theirs once the time has passed. -/
theorem stepRunsFrontCommand : Obligations.StepRunsFrontCommand :=
  ⟨fun _ _ _ h => step_of_waiting h, fun _ h => step_of_idle h, fun _ elapsed course bytes _ =>
    ⟨rfl, rfl, rfl, rfl, rfl, rfl, fun halive =>
      ⟨exec_feedbackReception_of_alive halive elapsed bytes, exec_feedbackSent_of_alive halive elapsed,
        exec_demandReception_of_alive halive elapsed course bytes, exec_demandSent_of_alive halive elapsed course⟩⟩⟩

/-! ### The waiting commands (log entry 1) -/

section
variable (s : State)

theorem State.stage_pending {old : Option Image} {sent : Bool} {f : State → State} (hf : f ∈ cycleStages old sent) :
    (f s).pending = s.pending := by
  simp only [cycleStages, List.mem_cons, List.not_mem_nil, or_false] at hf
  rcases hf with rfl | rfl | rfl | rfl | rfl | rfl <;> simp

@[simp] theorem State.computeCycle_pending (start : CycleStart) (during : List MidEvent) (point : Nat) :
    (s.computeCycle start during point).pending = s.pending :=
  State.runFrom_keeps (P := fun u => u.pending = s.pending) (fun _ hf u hu => (u.stage_pending hf).trans hu)
    (fun e _ u hu => (u.takeEvent_frame e).2.2.trans hu) point _ (by simp)

@[simp] theorem State.handDown_pending (origin : DemandOrigin) (bytes : List Byte) (latency : Nat) :
    (s.handDown origin bytes latency).pending = s.pending := by
  unfold State.handDown
  split <;> simp

@[simp] theorem State.runAccepted_pending (course : Course) (point : Nat) :
    (s.runAccepted course point).pending = s.pending := by
  unfold State.runAccepted State.processDemand State.sendEdited
  split <;> simp

@[simp] theorem State.demandComes_pending (elapsed : Nat) (course : Course) (bytes : List Byte) :
    (s.demandComes elapsed course bytes).pending = s.pending := by
  unfold State.demandComes
  split <;> simp

@[simp] theorem State.substituteExpires_pending (expiry : Nat) (course : Course) :
    (s.substituteExpires expiry course).pending = s.pending := by
  simp [State.substituteExpires]

@[simp] theorem State.request_pending (kind : Byte) (area : RequestArea) : (s.request kind area).pending = s.pending := by
  unfold State.request
  split <;> simp

end

/-- Settles O2: every command is a reset, an event, the hand-over of a request or a computation, and each of these leaves
the waiting commands. -/
theorem everyCommandKeepsTheQueue : Obligations.EveryCommandKeepsTheQueue := by
  intro c s
  cases c with
  | powerOn =>
    refine ⟨_, rfl, ?_⟩
    split <;> simp
  | resetInputAssert => exact ⟨_, rfl, by simp⟩
  | powerFailure => exact ⟨_, rfl, by simp⟩
  | resetInputRelease =>
    refine ⟨_, rfl, ?_⟩
    split
    · split <;> simp
    · rfl
  | estopAssert => exact ⟨_, rfl, by simp⟩
  | estopRelease => exact ⟨_, rfl, by simp⟩
  | setupChange active => exact ⟨_, rfl, by simp⟩
  | deadlineExpiry => exact ⟨_, rfl, by simp⟩
  | commitCheckEnd => exact ⟨_, rfl, by simp⟩
  | calibrationWriteEnd => exact ⟨_, rfl, by simp⟩
  | feedbackReception elapsed bytes =>
    refine ⟨_, rfl, ?_⟩
    split <;> simp
  | feedbackSent elapsed =>
    refine ⟨_, rfl, ?_⟩
    split <;> simp
  | demandReception elapsed course bytes => exact ⟨_, rfl, s.demandComes_pending elapsed course bytes⟩
  | demandSent elapsed course =>
    refine ⟨_, rfl, ?_⟩
    split <;> simp
  | substituteExpiry course =>
    refine ⟨_, rfl, ?_⟩
    split
    · split <;> simp
    · rfl
  | engage g carrier | release g carrier | clear g carrier => exact ⟨_, rfl, s.demandComes_pending _ _ _⟩
  | clearPart carrier | capture carrier | rearm carrier | clearRestart carrier =>
    exact ⟨_, rfl, s.demandComes_pending _ _ _⟩
  | read area | openTransfer area | transferData area | closeTransfer area | commit area | liveWrite area
  | setLiveWindow area | groupControl area | storeCalibration area | restart area | describe area =>
    exact ⟨_, rfl, s.request_pending _ area⟩
  | unknownKind kind area => exact ⟨_, rfl, s.request_pending kind area⟩

end Sys2Proof.Machine
end

section
/-! Resets and the lines sampled at their end (R92, R104, R105, R122, R146, R149, R159). -/

namespace Sys2Proof.Machine

/-! ### ESTOP released and SETUP changed (R95, R104, R149) -/

/-- Settles O20: the release is the end of the ESTOP cause, and a change of SETUP is its line's. -/
theorem estopReleaseAndSetupChange : Obligations.EstopReleaseAndSetupChange := by
  refine ⟨fun s halive hcause => congrArg Host.Outcome.next ?_, fun s active halive => congrArg Host.Outcome.next (if_pos halive)⟩
  have hreleased : s.releaseEstop =
      ((s.withEstopInput false).withReaction { s.reaction with estopCause := false }).causeEnds .estop 0 :=
    if_pos (by rw [halive, hcause]; rfl)
  rw [hreleased, State.causeEnds, endCause_eq]
  rfl

/-! ### The end of a reset (R104, R149) -/

section
variable (s : State)

/-- The state in which the end of a reset takes an asserted ESTOP input: SETUP sampled and the cause present. -/
def State.linesTaken : State :=
  (s.withImages { s.images with setupLine := s.setupInput }).withReaction { s.reaction with estopCause := true }

theorem State.endReset_of_released {s : State} (h : s.estopInput = false) :
    s.endReset = s.withImages { s.images with setupLine := s.setupInput } := if_neg (by rw [h]; exact Bool.false_ne_true)

theorem State.endReset_of_asserted {s : State} (h : s.estopInput = true) :
    s.endReset = s.linesTaken.occurrence .estop 0 := if_pos h

@[simp] theorem State.endReset_images : s.endReset.images = { s.images with setupLine := s.setupInput } := by
  cases h : s.estopInput with
  | false => rw [State.endReset_of_released h]; rfl
  | true => rw [State.endReset_of_asserted h]; simp [State.linesTaken]

/-- An ESTOP occurrence raises every group to SAFE with a valid image, as a part-wide kind configured at SAFE (R90, R97). -/
theorem State.occurrence_estop_level {s : State} (h : s.active.valid = true) (g : Chan) :
    (s.occurrence .estop 0).reaction.levels.get g = .safe := by
  have happlies : appliesTo s.active .estop 0 g = true := rfl
  rw [State.occurrence_reaction, Quad.get_ofFn, if_pos happlies, State.configuredLevel_estop h, Level.max_safe]

/-- An ESTOP occurrence leaves the exclusions, the Restart flag and the ESTOP cause. -/
theorem State.occurrence_estop_reaction :
    (s.occurrence .estop 0).reaction.exclusions = s.reaction.exclusions ∧
    (s.occurrence .estop 0).reaction.restart = s.reaction.restart ∧
    (s.occurrence .estop 0).reaction.estopCause = s.reaction.estopCause ∧
    (s.occurrence .estop 0).reaction.faults = recordFault s.reaction.faults .estop 0 s.timer.cycleCount := by
  have hpart : ¬ (FaultKind.scopeKind .estop = .roller ∧ s.configuredLevel .estop = .degrade) := fun h => nomatch h.1
  rw [State.occurrence_reaction]
  dsimp only
  exact ⟨if_neg hpart, rfl, rfl, rfl⟩

/-- A group's level change by an occurrence acts on its state (R57). -/
theorem State.occurrence_afterLevelChange (k : FaultKind) (c g : Chan) :
    afterLevelChange (s.coupling.get g) ((s.occurrence k c).coupling.get g) (s.reaction.levels.get g)
      ((s.occurrence k c).reaction.levels.get g) := by
  rw [State.occurrence_coupling, State.occurrence_reaction, Quad.get_ofFn]
  exact GroupCoupling.afterLevelChange_onLevel _ _ _

end

/-- Settles O18: the reset ends in the state with the input released, by the two cases of the ESTOP input. -/
theorem resetReleaseSamplesInputs : Obligations.ResetReleaseSamplesInputs := by
  intro s hheld hpowered
  have hexec : exec .resetInputRelease s = .next (s.withResetHeld false).endReset := by
    refine congrArg Host.Outcome.next ?_
    rw [if_pos hheld, if_pos hpowered]
  refine ⟨fun hestop => ?_, fun hestop => ?_⟩
  · exact hexec.trans (congrArg _ (State.endReset_of_released (s := s.withResetHeld false) hestop))
  · have htaken := State.endReset_of_asserted (s := s.withResetHeld false) hestop
    obtain ⟨hexclusions, hrestart, hcause, hfaults⟩ := (s.withResetHeld false).linesTaken.occurrence_estop_reaction
    refine ⟨_, _, _, hexec.trans (congrArg _ (htaken.trans (State.occurrence_only _ .estop 0))), hcause, hrestart,
      hexclusions, ?_, fun hvalid g => State.occurrence_estop_level (s := (s.withResetHeld false).linesTaken) hvalid g,
      fun g => (s.withResetHeld false).linesTaken.occurrence_afterLevelChange .estop 0 g,
      (s.withResetHeld false).linesTaken.occurrence_afterOffer .estop 0⟩
    rw [hfaults]
    exact recordFault_recordsOccurrence _ _ _ _

end Sys2Proof.Machine
end

section
/-! What a reset restores: the blocks, the images, the Calibration store and the sampled lines (R92, R104, R105, R122, R146,
R149, R159). -/

namespace Sys2Proof.Machine

/-! ### The images a reset loads (R146) -/

/-- Values put at different fields are read back there. -/
theorem foldl_put_map_field : ∀ {fields : List Nat} {values : List Word}, fields.Nodup → (∀ i ∈ fields, i < 254) →
    values.length = fields.length → ∀ img : Image,
      fields.map ((fields.zip values).foldl (fun acc p => acc.put p.1 p.2) img).field = values
  | [], [], _, _, _, _ => rfl
  | i :: fields, w :: values, hnodup, hlt, hlength, img => by
    obtain ⟨hi, hnodup⟩ := List.nodup_cons.mp hnodup
    have hrest := foldl_put_map_field hnodup (fun j hj => hlt j (by simp [hj])) (Nat.succ.inj hlength) (img.put i w)
    have hfirst : ((fields.zip values).foldl (fun acc p => acc.put p.1 p.2) (img.put i w)).field i = w := by
      rw [foldl_put_field _ _ fun p hp => ?_, Image.field_put _ (hlt i (by simp)), if_pos rfl]
      have hmem : p.1 ∈ fields := (List.of_mem_zip (a := p.1) (b := p.2) hp).1
      exact ⟨hlt _ (by simp [hmem]), fun h => hi (h ▸ hmem)⟩
    rw [List.zip_cons_cons, List.foldl_cons, List.map_cons, hrest, hfirst]

theorem maintenanceFields_length : maintenanceFields.length = 37 := by decide +kernel

/-- The maintenance values loaded are read back in their order (R146). -/
theorem withMaintenance_values {values : List Word} (h : values.length = 37) (img : Image) :
    maintenanceFields.map (withMaintenance img values).field = values :=
  foldl_put_map_field (List.nodup_range.filter _) (fun _ hi => (mem_maintenanceFields.mp hi).1)
    (h.trans maintenanceFields_length.symm) img

theorem CalibrationStore.valid_length {c : CalibrationStore} (h : c.valid = true) : c.fields.length = 37 := by
  simp only [CalibrationStore.valid, calibrationValuesValid, Bool.and_eq_true, beq_iff_eq] at h
  exact h.1.1

theorem defaultImage_field {i : Nat} (h : i < 254) : defaultImage.field i = fieldDefault i := by
  simp [defaultImage, Image.field, List.getD, h]

theorem loadedImage_of_invalid {c : CalibrationStore} (h : c.valid = false) : loadedImage c = defaultImage :=
  if_neg (Bool.eq_false_iff.mp h)

theorem loadedImage_of_valid {c : CalibrationStore} (h : c.valid = true) :
    loadedImage c = withMaintenance defaultImage c.fields := if_pos h

/-- A field that is no maintenance field is loaded with its default (R146). -/
theorem loadedImage_field (c : CalibrationStore) {i : Nat} (hi : i < 254) (h : c.valid = false ∨ isMaintenance i = false) :
    (loadedImage c).field i = fieldDefault i := by
  cases hvalid : c.valid with
  | false => rw [loadedImage_of_invalid hvalid, defaultImage_field hi]
  | true =>
    have hclass : isMaintenance i = false := h.resolve_left (by simp [hvalid])
    rw [loadedImage_of_valid hvalid, withMaintenance_field hclass, defaultImage_field hi]

/-- A store whose write is abandoned does not match its check word (R159). -/
theorem CalibrationStore.abandoned_invalid (c : CalibrationStore) : c.abandoned.valid = false := by
  have hcheck : (c.abandoned.check == calibrationCrc c.abandoned.fields c.abandoned.count) = false := by
    refine beq_false_of_ne fun h => ?_
    have hbit := congrArg (BitVec.getLsbD · 0) h
    simp [CalibrationStore.abandoned] at hbit
  rw [CalibrationStore.valid, hcheck, Bool.and_false]

theorem State.survivingStore_of_idle {s : State} (h : s.images.writing = none) : s.survivingStore = s.calibration := by
  simp [State.survivingStore, State.storeWriting, h]

theorem State.survivingStore_of_writing {s : State} (h : s.images.writing ≠ none) :
    s.survivingStore = s.calibration.abandoned := by
  simp [State.survivingStore, State.storeWriting, Option.isSome_iff_ne_none, h]

/-! ### The state a reset leaves -/

section
variable (s : State)

theorem State.resetBlocks_blocksAtReset : s.resetBlocks.blocksAtReset := by
  simp [State.blocksAtReset, State.resetBlocks, State.reset, State.active, ImageStore.reset]

theorem State.resetBlocks_imagesLoaded : s.resetBlocks.imagesLoaded := by
  rw [State.imagesLoaded, State.resetBlocks_calibration]
  refine ⟨rfl, rfl, fun hvalid => ?_, fun i hi h => loadedImage_field _ hi h⟩
  have hactive : s.resetBlocks.active = withMaintenance defaultImage s.survivingStore.fields := loadedImage_of_valid hvalid
  rw [hactive]
  exact withMaintenance_values (CalibrationStore.valid_length hvalid) _

theorem State.resetBlocks_storeKept : s.storeKept s.resetBlocks := by
  refine ⟨fun hidle => ?_, fun hwriting => ?_⟩
  · rw [State.resetBlocks_calibration, State.survivingStore_of_idle hidle]
  · have hinvalid : s.survivingStore.valid = false := by
      rw [State.survivingStore_of_writing hwriting, CalibrationStore.abandoned_invalid]
    have himage := loadedImage_of_invalid hinvalid
    rw [State.resetBlocks_calibration]
    exact ⟨hinvalid, hinvalid, himage, himage⟩

/-- The Reaction unit, the History buffer and the SETUP line until the lines are sampled (R92, R107). -/
theorem State.resetBlocks_unsampled :
    s.resetBlocks.reaction = Reaction.reset ∧ s.resetBlocks.history = History.reset ∧
    s.resetBlocks.images.setupLine = false := ⟨rfl, rfl, rfl⟩

end

/-! ### The lines sampled at the end of a reset (R104, R149) -/

section
variable {s t : State}

/-- The occurrence of ESTOP finds every group at rest and leaves it so. -/
theorem State.blocksAtReset.endReset (h : s.blocksAtReset) : s.endReset.blocksAtReset := by
  have hcoupling : ∀ g, s.endReset.coupling.get g = GroupCoupling.reset := fun g => by
    have hreset : s.coupling.get g = GroupCoupling.reset := by
      obtain ⟨-, -, -, -, hreset, -⟩ := h
      exact hreset g
    cases hestop : s.estopInput with
    | false =>
      rw [State.endReset_of_released hestop]
      exact hreset
    | true =>
      rw [State.endReset_of_asserted hestop, State.occurrence_coupling]
      show (s.coupling.get g).onLevel _ _ = _
      rw [hreset]
      exact GroupCoupling.onLevel_of_atRest rfl _ _
  simp only [State.blocksAtReset, State.endReset_frame, State.endReset_images, State.active] at h ⊢
  obtain ⟨hacq, hwindow, hgroup, hroller, -, hrest⟩ := h
  exact ⟨hacq, hwindow, hgroup, hroller, hcoupling, hrest⟩

theorem State.imagesLoaded.endReset (h : s.imagesLoaded) : s.endReset.imagesLoaded := by
  simpa only [State.imagesLoaded, State.endReset_frame, State.endReset_images, State.active] using h

theorem State.storeKept.endReset (h : s.storeKept t) : s.storeKept t.endReset := by
  simpa only [State.storeKept, State.endReset_frame, State.endReset_images] using h

end

/-- The trigger level, the post-trigger count and the ESTOP level of a loaded image are the defaults (R90, R112, R144). -/
theorem loadedImage_triggers (c : CalibrationStore) :
    (loadedImage c).triggerLevel = 3 ∧ (loadedImage c).postTrigger = 16 := by
  have hfield := fun i (hi : i < 254) (h : isMaintenance i = false) => loadedImage_field c hi (.inr h)
  rw [Image.triggerLevel, Image.postTrigger, hfield 9 (by omega) rfl, hfield 7 (by omega) rfl]
  decide

/-- The occurrence of an asserted ESTOP input at the end of a reset: its entry at the count left by reset, every group at
SAFE, and the History buffer triggered (R94, R104, R110, R112). -/
theorem State.resetBlocks_estop (s : State) :
    (s.resetBlocks.linesTaken.occurrence .estop 0).reaction =
      { Reaction.reset with estopCause := true, faults := [⟨.estop, 0, 0, 0, 1, true⟩], levels := Quad.all .safe } ∧
    (s.resetBlocks.linesTaken.occurrence .estop 0).history = ⟨[], .postTrigger, 16⟩ := by
  have hactive : s.resetBlocks.linesTaken.active = loadedImage s.survivingStore := rfl
  have hvalid : s.resetBlocks.linesTaken.active.valid = true := hactive ▸ loadedImage_valid _
  have hlevels : (s.resetBlocks.linesTaken.occurrence .estop 0).reaction.levels = Quad.all .safe :=
    Quad.ext_get fun g => by rw [State.occurrence_estop_level hvalid, Quad.get_all]
  obtain ⟨hexclusions, hrestart, hcause, hfaults⟩ := s.resetBlocks.linesTaken.occurrence_estop_reaction
  obtain ⟨hlevel, hcount⟩ := loadedImage_triggers s.survivingStore
  constructor
  · generalize (s.resetBlocks.linesTaken.occurrence .estop 0).reaction = r at *
    cases r
    dsimp only at hlevels hexclusions hrestart hcause hfaults
    rw [hlevels, hexclusions, hrestart, hcause, hfaults]
    rfl
  · have htriggers : s.resetBlocks.linesTaken.triggers .estop = true := by
      rw [State.triggers_iff, State.configuredLevel_estop hvalid, hactive, hlevel]
      decide
    rw [State.occurrence_history, if_pos htriggers, hactive, hcount]
    rfl

theorem State.resetBlocks_linesSampled (s : State) : s.resetBlocks.endReset.linesSampled := by
  cases hestop : s.estopInput with
  | false =>
    rw [State.endReset_of_released (s := s.resetBlocks) hestop]
    exact ⟨rfl, rfl, hestop.symm, rfl, fun _ => ⟨rfl, rfl, rfl⟩,
      fun h => absurd (h.symm.trans hestop) (by decide)⟩
  | true =>
    obtain ⟨hreaction, hhistory⟩ := s.resetBlocks_estop
    have hinput : s.resetBlocks.endReset.estopInput = true := by simpa using hestop
    have hend := State.endReset_of_asserted (s := s.resetBlocks) hestop
    rw [State.linesSampled, hinput, hend, hreaction, hhistory, ← hend]
    exact ⟨by simp, rfl, rfl, rfl, nofun, fun _ => ⟨rfl, rfl, rfl⟩⟩

/-! ### POWER_ON (R92, R104, R122, R146, R149) -/

/-- Settles O15: the reset restores the blocks and loads the images, and its end, unless RESET is held, samples the lines
and leaves the rest. -/
theorem powerOnRestoresEveryBlock : Obligations.PowerOnRestoresEveryBlock := by
  intro s
  have hblocks := (s.withPowered true).resetBlocks_blocksAtReset
  have hloaded := (s.withPowered true).resetBlocks_imagesLoaded
  have hkept : s.storeKept (s.withPowered true).resetBlocks := (s.withPowered true).resetBlocks_storeKept
  cases hheld : s.resetHeld with
  | true =>
    refine ⟨(s.withPowered true).resetBlocks, congrArg Host.Outcome.next (if_pos hheld), rfl, hblocks, hloaded, hheld, rfl,
      rfl, rfl, hkept, nofun, fun _ => State.resetBlocks_unsampled _⟩
  | false =>
    refine ⟨(s.withPowered true).resetBlocks.endReset, congrArg Host.Outcome.next (if_neg (by rw [hheld]; exact nofun)),
      by simp, hblocks.endReset, hloaded.endReset, by simpa using hheld, by simp, by simp, by simp, hkept.endReset,
      fun _ => State.resetBlocks_linesSampled _, nofun⟩

/-! ### A held RESET (R92, R105, R122) -/

section
variable {s : State} (h : s.alive = false)
include h

theorem State.assertEstop_of_held : s.assertEstop = s.withEstopInput true := if_neg (by rw [h]; exact nofun)

theorem State.releaseEstop_of_held : s.releaseEstop = s.withEstopInput false := if_neg (by rw [h]; exact nofun)

theorem State.changeSetup_of_held (active : Bool) : s.changeSetup active = s.withSetupInput active :=
  if_neg (by rw [h]; exact nofun)

theorem State.checkEnds_of_held : s.checkEnds = s := if_neg (by rw [h]; exact nofun)

theorem State.request_of_held (kind : Byte) (area : RequestArea) : s.request kind area = s :=
  if_neg (by rw [h]; exact nofun)

theorem State.demandComes_of_held (elapsed : Nat) (course : Course) (bytes : List Byte) :
    s.demandComes elapsed course bytes = s.tick elapsed := if_neg (by rw [h]; exact nofun)

theorem State.writeEnds_of_held : s.writeEnds = s := by
  unfold State.writeEnds
  split
  · exact if_neg (by rw [h]; exact nofun)
  · rfl

theorem State.deadlineComes_of_held : s.deadlineComes = s := by
  unfold State.deadlineComes
  split
  · exact if_neg (by rw [h]; exact nofun)
  · rfl

theorem exec_substituteExpiry_of_held (course : Course) : exec (.substituteExpiry course) s = .next s := by
  refine congrArg Host.Outcome.next ?_
  split
  · exact if_neg (by rw [h]; exact nofun)
  · rfl

theorem exec_demandSent_of_held (elapsed : Nat) (course : Course) :
    exec (.demandSent elapsed course) s = .next (s.tick elapsed) :=
  congrArg Host.Outcome.next (if_neg (by rw [h]; exact nofun))

theorem exec_feedbackReception_of_held (elapsed : Nat) (bytes : List Byte) :
    exec (.feedbackReception elapsed bytes) s = .next (s.tick elapsed) :=
  congrArg Host.Outcome.next (if_neg (by rw [h]; exact nofun))

theorem exec_feedbackSent_of_held (elapsed : Nat) : exec (.feedbackSent elapsed) s = .next (s.tick elapsed) :=
  congrArg Host.Outcome.next (if_neg (by rw [h]; exact nofun))

end

/-- Settles O17: the assertion is a reset without its end, and no command is taken while the unit is held. -/
theorem heldResetKeepsResetValues : Obligations.HeldResetKeepsResetValues := by
  refine ⟨fun s => ?_, fun s c hheld hon hfailure hassert hrelease => ?_⟩
  · obtain ⟨hreaction, hhistory, hsetup⟩ := (s.withResetHeld true).resetBlocks_unsampled
    exact ⟨(s.withResetHeld true).resetBlocks, rfl, rfl, State.resetBlocks_blocksAtReset _,
      State.resetBlocks_imagesLoaded _, hreaction, hhistory, hsetup, rfl, rfl, rfl, rfl, rfl,
      (s.withResetHeld true).resetBlocks_storeKept⟩
  · have halive : s.alive = false := by simp [State.alive, hheld]
    cases c with
    | powerOn => exact absurd rfl hon
    | powerFailure => exact absurd rfl hfailure
    | resetInputAssert => exact absurd rfl hassert
    | resetInputRelease => exact absurd rfl hrelease
    | estopAssert => exact congrArg Host.Outcome.next (State.assertEstop_of_held halive)
    | estopRelease => exact congrArg Host.Outcome.next (State.releaseEstop_of_held halive)
    | setupChange active => exact congrArg Host.Outcome.next (State.changeSetup_of_held halive active)
    | deadlineExpiry => exact congrArg Host.Outcome.next (State.deadlineComes_of_held halive)
    | commitCheckEnd => exact congrArg Host.Outcome.next (State.checkEnds_of_held halive)
    | calibrationWriteEnd => exact congrArg Host.Outcome.next (State.writeEnds_of_held halive)
    | substituteExpiry course => exact exec_substituteExpiry_of_held halive course
    | demandReception elapsed course bytes =>
      exact congrArg Host.Outcome.next (State.demandComes_of_held halive elapsed course bytes)
    | demandSent elapsed course => exact exec_demandSent_of_held halive elapsed course
    | feedbackReception elapsed bytes => exact exec_feedbackReception_of_held halive elapsed bytes
    | feedbackSent elapsed => exact exec_feedbackSent_of_held halive elapsed
    | engage g carrier | release g carrier | clear g carrier =>
      exact congrArg Host.Outcome.next (State.demandComes_of_held halive _ _ _)
    | clearPart carrier | capture carrier | rearm carrier | clearRestart carrier =>
      exact congrArg Host.Outcome.next (State.demandComes_of_held halive _ _ _)
    | read area | openTransfer area | transferData area | closeTransfer area | commit area | liveWrite area
    | setLiveWindow area | groupControl area | storeCalibration area | restart area | describe area =>
      exact congrArg Host.Outcome.next (State.request_of_held halive _ area)
    | unknownKind kind area => exact congrArg Host.Outcome.next (State.request_of_held halive kind area)

end Sys2Proof.Machine
end

section
/-! THEOREMS. The words of the readable objects (O47): the equal blocks of object RUNTIME, the codes its words hold, and the
words of the Fault store, the counters and the history. -/

namespace Sys2Proof.Machine

/-! ### Words in blocks of one length -/

theorem getD_append_of_lt (xs ys : List Word) (i : Nat) (h : i < xs.length) :
    (xs ++ ys).getD i 0 = xs.getD i 0 := by
  simp [List.getElem?_append_left h]

theorem getD_append_add (xs ys : List Word) (i : Nat) :
    (xs ++ ys).getD (xs.length + i) 0 = ys.getD i 0 := by
  simp [List.getElem?_append_right]

/-- Word `j` of block `i` stands at `k * i + j` when every block has `k` words. -/
theorem getD_flatMap_block {α : Type} {f : α → List Word} {k : Nat} (hk : ∀ x, (f x).length = k) {j : Nat} (hj : j < k) :
    ∀ (xs : List α) (i : Nat) (x : α), xs[i]? = some x → (xs.flatMap f).getD (k * i + j) 0 = (f x).getD j 0
  | [], _, _, h => by simp at h
  | y :: ys, 0, x, h => by
    obtain rfl : y = x := by simpa using h
    rw [List.flatMap_cons, Nat.mul_zero, Nat.zero_add, getD_append_of_lt _ _ _ (by rw [hk]; exact hj)]
  | y :: ys, i + 1, x, h => by
    have hplace : k * (i + 1) + j = (f y).length + (k * i + j) := by rw [hk, Nat.mul_succ]; omega
    rw [List.flatMap_cons, hplace, getD_append_add]
    exact getD_flatMap_block hk hj ys i x (by simpa using h)

theorem channels_getElem? (r : Chan) : channels[r.val]? = some r := by
  fin_cases r <;> rfl

theorem length_flatMap_channels {f : Chan → List Word} {k : Nat} (hk : ∀ r, (f r).length = k) :
    (channels.flatMap f).length = 4 * k := by
  simp [channels, hk]; omega

/-! ### The blocks of object RUNTIME (R165) -/

theorem partWords_length (s : State) : (partWords s).length = 24 := rfl

theorem groupWords_length (s : State) (g : Chan) : (groupWords s g).length = 12 := rfl

theorem rollerWords_length (s : State) (r : Chan) : (rollerWords s r).length = 40 := rfl

theorem runtimeWords_length (s : State) : (runtimeWords s).length = 232 := by
  rw [runtimeWords, List.length_append, List.length_append, partWords_length,
    length_flatMap_channels (groupWords_length s), length_flatMap_channels (rollerWords_length s)]

theorem runtimeWords_part (s : State) {i : Nat} (hi : i < 24) : (runtimeWords s).getD i 0 = (partWords s).getD i 0 := by
  rw [runtimeWords, List.append_assoc, getD_append_of_lt _ _ _ (by rw [partWords_length]; exact hi)]

theorem runtimeWords_group (s : State) (g : Chan) {i : Nat} (hi : i < 12) :
    (runtimeWords s).getD (24 + 12 * g.val + i) 0 = (groupWords s g).getD i 0 := by
  have hplace : 24 + 12 * g.val + i = (partWords s).length + (12 * g.val + i) := by rw [partWords_length]; omega
  have hinside : 12 * g.val + i < (channels.flatMap (groupWords s)).length := by
    rw [length_flatMap_channels (groupWords_length s)]; omega
  rw [runtimeWords, List.append_assoc, hplace, getD_append_add, getD_append_of_lt _ _ _ hinside]
  exact getD_flatMap_block (groupWords_length s) hi channels g g (channels_getElem? g)

theorem runtimeWords_roller (s : State) (r : Chan) {i : Nat} (hi : i < 40) :
    (runtimeWords s).getD (72 + 40 * r.val + i) 0 = (rollerWords s r).getD i 0 := by
  have hplace : 72 + 40 * r.val + i =
      (partWords s ++ channels.flatMap (groupWords s)).length + (40 * r.val + i) := by
    rw [List.length_append, partWords_length, length_flatMap_channels (groupWords_length s)]; omega
  rw [runtimeWords, hplace, getD_append_add]
  exact getD_flatMap_block (rollerWords_length s) hi channels r r (channels_getElem? r)

/-! ### The codes of the words (R165) -/

theorem wordOfNat_linkState (l : LinkState) :
    wordOfNat l.code = match l with | .idle => 0 | .up => 1 | .lost => 2 := by
  cases l <;> rfl

theorem wordOfNat_historyState (h : HistoryState) :
    wordOfNat h.code = match h with | .recording => 0 | .postTrigger => 1 | .frozen => 2 := by
  cases h <;> rfl

theorem wordOfNat_commitState (c : CommitState) :
    wordOfNat c.code = match c with | .none => 0 | .checking => 1 | .ready => 2 := by
  cases c <;> rfl

theorem wordOfNat_groupState (c : GroupState) :
    wordOfNat c.code =
      match c with | .detached => 0 | .engaging => 1 | .coupled => 2 | .releasing => 3 | .suspended => 4 := by
  cases c <;> rfl

theorem wordOfNat_level (l : Level) :
    wordOfNat l.code = match l with | .none => 0 | .note => 1 | .degrade => 2 | .hold => 3 | .safe => 4 := by
  cases l <;> rfl

theorem wordOfNat_clampSide (c : ClampSide) :
    wordOfNat c.code = match c with | .none => 0 | .upper => 1 | .lower => 2 := by
  cases c <;> rfl

theorem wordOfNat_phase (p : Phase) :
    wordOfNat p.code = match p with | .off => 0 | .ramp => 1 | .atClear => 2 | .return_ => 3 := by
  cases p <;> rfl

/-- The three bits of a drive status stand apart in its word. -/
theorem wordOfNat_driveStatus (d : DriveStatus) :
    wordOfNat d.code = wordOfBool d.ready + 2 * wordOfBool d.fault + 4 * wordOfBool d.positionValid := by
  obtain ⟨ready, fault, valid⟩ := d
  cases ready <;> cases fault <;> cases valid <;> rfl

theorem Image.wordOfNat_blockLength (img : Image) (g : Chan) :
    wordOfNat (img.blockLength g) =
      if img.group g 8 = 0 then 1 else if img.group g 8 = 1 then 4 else if img.group g 8 = 2 then 16 else 0 := by
  have hword (n : Nat) (hn : n < 2 ^ 32) : img.group g 8 = BitVec.ofNat 32 n ↔ (img.group g 8).toNat = n := by
    rw [BitVec.toNat_eq, BitVec.toNat_ofNat, Nat.mod_eq_of_lt hn]
  rw [show (0 : Word) = BitVec.ofNat 32 0 from rfl, show (1 : Word) = BitVec.ofNat 32 1 from rfl,
    show (2 : Word) = BitVec.ofNat 32 2 from rfl]
  simp only [hword 0 (by decide), hword 1 (by decide), hword 2 (by decide), Image.blockLength]
  split <;> simp_all [wordOfNat]

theorem wordOfNat_blockLengthOf (img : Image) (r : Chan) :
    wordOfNat (blockLengthOf img r) = match img.groupOf r with
      | some g =>
        if img.group g 8 = 0 then 1 else if img.group g 8 = 1 then 4 else if img.group g 8 = 2 then 16 else 0
      | none => 0 := by
  rw [blockLengthOf]
  cases img.groupOf r with
  | none => rfl
  | some g => exact img.wordOfNat_blockLength g

/-! ### The Fault store, the counters and the history (R166, R114) -/

theorem block_div_mod {k i j : Nat} (hj : j < k) : (k * i + j) / k = i ∧ (k * i + j) % k = j :=
  ⟨by rw [Nat.mul_add_div (by omega), Nat.div_eq_of_lt hj, Nat.add_zero],
    by rw [Nat.mul_add_mod, Nat.mod_eq_of_lt hj]⟩

theorem State.faultWord_of_entry {s : State} {i : Nat} {f : FaultEntry} (h : s.reaction.faults[i]? = some f) {j : Nat}
    (hj : j < 8) : s.faultWord (8 * i + j) = f.words.getD j 0 := by
  obtain ⟨hentry, hword⟩ := block_div_mod (i := i) hj
  rw [State.faultWord, hentry, hword, h]

theorem State.faultWord_past {s : State} {i : Nat} (h : 8 * s.reaction.faults.length ≤ i) : s.faultWord i = 0 := by
  rw [State.faultWord, List.getElem?_eq_none (by omega)]

theorem State.historyWord_of_record {s : State} {n : Nat} {c : CycleRecord} (h : s.history.ring[n]? = some c) {w : Nat}
    (hw : w < 32) : s.historyWord (32 * n + w) = c.words.getD w 0 := by
  obtain ⟨hrecord, hword⟩ := block_div_mod (i := n) hw
  rw [State.historyWord, hrecord, hword, h]

theorem State.historyWord_past {s : State} {i : Nat} (h : 32 * s.history.ring.length ≤ i) : s.historyWord i = 0 := by
  rw [State.historyWord, List.getElem?_eq_none (by omega)]

theorem counterWords_late (s : State) (r : Chan) :
    (counterWords s).getD (2 + r.val) 0 = BitVec.ofNat 32 (s.acq.get r).lateCount := by
  fin_cases r <;> rfl

/-- Settles O47: the blocks of RUNTIME follow one another with 24, 12 and 40 words each, and the words of an entry or a
record stand at its multiple of 8 or 32. -/
theorem readableObjectLayouts : Obligations.ReadableObjectLayouts := by
  intro s
  refine ⟨fun i => ⟨rfl, rfl⟩, ⟨runtimeWords_length s, fun i hi => ?part, fun g i hi => ?group, fun r i hi => ?roller⟩,
    fun i f hf => ?entry, fun i hi => s.faultWord_past hi, ⟨rfl, rfl, counterWords_late s, rfl, rfl⟩,
    fun n w c hw hc => s.historyWord_of_record hc hw, fun i hi => s.historyWord_past hi⟩
  case part =>
    refine (runtimeWords_part s hi).trans (congrArg (List.getD · i 0) ?_)
    rw [partWords, wordOfNat_linkState, wordOfNat_historyState, wordOfNat_commitState]
    cases s.timer.deadline <;> rfl
  case group =>
    refine (runtimeWords_group s g hi).trans (congrArg (List.getD · i 0) ?_)
    rw [groupWords, wordOfNat_groupState, wordOfNat_level]
    rfl
  case roller =>
    refine (runtimeWords_roller s r hi).trans (congrArg (List.getD · i 0) ?_)
    rw [rollerWords, wordOfNat_driveStatus, wordOfNat_phase, wordOfNat_blockLengthOf,
      wordOfNat_clampSide (s.torque.get r).authSide, wordOfNat_clampSide (s.torque.get r).rangeSide]
    rfl
  case entry =>
    have hword (j : Nat) (hj : j < 8) : s.objectWord 4 (8 * i + j) = f.words.getD j 0 := s.faultWord_of_entry hf hj
    exact ⟨hword 0 (by decide), hword 1 (by decide), hword 2 (by decide), hword 3 (by decide), hword 4 (by decide),
      hword 5 (by decide), hword 6 (by decide), hword 7 (by decide)⟩

end Sys2Proof.Machine
end

section
/-! THEOREMS. The checks of an image, field by field (O51): which check of R147 each region's test makes. -/

namespace Sys2Proof.Machine

/-! ### The regions of an image and the checks attributed to their fields (R144, R147) -/

/-- A field's unsigned value lies outside bounds. -/
def Image.outside (img : Image) (i lo hi : Nat) : Prop := (img.field i).toNat < lo ∨ hi < (img.field i).toNat

/-- A field's signed value lies outside the 16-bit torque range. -/
def Image.outsideTorque (img : Image) (i : Nat) : Prop := (img.field i).toInt < -32768 ∨ 32767 < (img.field i).toInt

/-- The checks attributed to the Cycle Setup fields. -/
def Image.breaksSetup (img : Image) (i : Nat) : Prop :=
  (i = 0 ∧ img.outside i 0 3) ∨ (i = 1 ∧ img.outside i 2 15) ∨
  (∃ r : Chan, i = 2 + r.val ∧
    (img.outside i 0 3 ∨ ∃ q : Chan, q < r ∧ (img.field (2 + q.val)).toNat = (img.field i).toNat)) ∨
  (i = 6 ∧ img.outside i 1 32767) ∨
  (i = 7 ∧ ((img.field i).toNat % 256 = 0 ∨ 63 < (img.field i).toNat / 256)) ∨
  (i = 8 ∧ img.outside i 0 4095) ∨ (i = 9 ∧ img.outside i 0 4)

/-- The checks attributed to the fields of roller `r`'s record. -/
def Image.breaksRoller (img : Image) (r : Chan) (i : Nat) : Prop :=
  let b := 10 + 15 * r.val
  (i = b ∧ img.outside i 0 3) ∨ (i = b + 1 ∧ img.outside i 0 255) ∨ (i = b + 2 ∧ img.outside i 32768 131072) ∨
  (i = b + 3 ∧ (img.outside i 0 4 ∨ (1 ≤ (img.field i).toNat ∧ (img.field i).toNat ≤ 4 ∧
    (img.field (110 + 33 * ((img.field i).toNat - 1))).toNat < 2))) ∨
  (i = b + 4 ∧ img.outside i 0 1) ∨
  (i = b + 5 ∧ (img.field i).toNat = 0 ∧ ∃ g : Chan, (img.field b).toNat = g.val ∧ 2 ≤ (img.members g).length) ∨
  (i = b + 6 ∧ img.outsideTorque i) ∨
  (i = b + 7 ∧ (img.outsideTorque i ∨ (img.field i).toInt < (img.field (b + 8)).toInt)) ∨
  (i = b + 8 ∧ (img.outsideTorque i ∨ (img.field i).toInt < (img.field (b + 6)).toInt)) ∨
  (i = b + 9 ∧ img.outsideTorque i) ∨ (i = b + 10 ∧ img.outsideTorque i) ∨
  (i = b + 11 ∧ img.outside i 0 32767) ∨ (i = b + 12 ∧ img.outside i 0 32767) ∨
  (i = b + 13 ∧ img.outside i 1 4000000) ∨ (i = b + 14 ∧ img.outside i 1 15)

/-- The checks attributed to the fields of coupling group `g`'s record. -/
def Image.breaksGroup (img : Image) (g : Chan) (i : Nat) : Prop :=
  let b := 70 + 10 * g.val
  (i = b ∧ (img.outside i 0 65535 ∨ ∀ r ∈ img.members g, (img.field (11 + 15 * r.val)).toNat = 0)) ∨
  (i = b + 1 ∧ img.outside i 0 65535) ∨ (i = b + 2 ∧ img.outside i 1 1073741824) ∨ (i = b + 3 ∧ img.outside i 1 4096) ∨
  (i = b + 4 ∧ img.outside i 1 32767) ∨ (i = b + 5 ∧ img.outside i 1 20000000) ∨
  (i = b + 6 ∧ (img.outside i 1 20000000 ∨ (img.field i).toNat < (img.field (b + 5)).toNat)) ∨
  (i = b + 7 ∧ img.outside i 1 1073741824) ∨ (i = b + 8 ∧ img.outside i 0 2) ∨ (i = b + 9 ∧ img.outside i 1 255)

/-- The checks attributed to the fields of curve `c`, counted from 0. -/
def Image.breaksCurve (img : Image) (c : Chan) (i : Nat) : Prop :=
  let b := 110 + 33 * c.val
  let m := (img.field b).toNat
  (i = b ∧ m ≠ 0 ∧ (m < 2 ∨ 16 < m)) ∨
  (2 ≤ m ∧ m ≤ 16 ∧ ∃ j, j < m ∧
    ((i = b + 1 + j ∧ if j = 0 then (img.field i).toInt < 0 else (img.field i).toInt ≤ (img.field (i - 1)).toInt) ∨
      (i = b + 17 + j ∧ img.outside i 32768 131072)))

/-- The range check of a Reaction table field (R90). -/
def Image.breaksReaction (img : Image) (i : Nat) : Prop :=
  ∃ k, k < 12 ∧ i = 242 + k ∧ img.outside i
    (if k = 0 ∨ k = 1 then 4 else if k = 4 ∨ k = 6 then 2 else if k = 7 ∨ k = 9 ∨ k = 10 then 3 else 0) 4

theorem Image.groupOf_eq_some_iff (img : Image) (r g : Chan) :
    img.groupOf r = some g ↔ (img.field (10 + 15 * r.val)).toNat = g.val := by
  rw [Image.groupOf, Image.roller, Nat.add_zero]
  by_cases h : (img.field (10 + 15 * r.val)).toNat < 4
  · simp [h, Fin.ext_iff]
  · simp [h]
    omega

theorem Image.members_eq (img : Image) (g : Chan) :
    img.members g = channels.filter fun r => (img.field (10 + 15 * r.val)).toNat == g.val := by
  refine List.filter_congr fun r _ => ?_
  rw [Bool.eq_iff_iff, Image.isMember, beq_iff_eq, beq_iff_eq, Image.groupOf_eq_some_iff]

theorem Image.breaksCheck_iff (img : Image) (i : Nat) :
    img.breaksCheck i ↔ img.breaksSetup i ∨ (∃ r, img.breaksRoller r i) ∨
      (∃ g, 2 ≤ (img.members g).length ∧ img.breaksGroup g i) ∨ (∃ c, img.breaksCurve c i) ∨ img.breaksReaction i := by
  simp only [Image.breaksCheck, Image.breaksSetup, Image.breaksRoller, Image.breaksGroup, Image.breaksCurve,
    Image.breaksReaction, Image.outside, Image.outsideTorque, or_assoc, Image.members_eq]

end Sys2Proof.Machine
end

section
/-! THEOREMS. A field fails exactly when a check attributed to it fails (O51, R147). -/

namespace Sys2Proof.Machine

/-! ### The tests of one field -/

theorem within_eq_false_iff (img : Image) (i lo hi : Nat) :
    within (img.field i) lo hi = false ↔ img.outside i lo hi := by
  rw [within, Image.outside, Bool.and_eq_false_iff, decide_eq_false_iff_not, decide_eq_false_iff_not, Nat.not_le,
    Nat.not_le]

theorem withinTorque_eq_false_iff (img : Image) (i : Nat) :
    withinTorque (img.field i) = false ↔ img.outsideTorque i := by
  rw [withinTorque, Image.outsideTorque, Bool.and_eq_false_iff, decide_eq_false_iff_not, decide_eq_false_iff_not,
    Int.not_le, Int.not_le]

/-! ### Cycle Setup -/

/-- A slot position fails out of range or where a lower channel has the same one. -/
theorem setupFails_slot (img : Image) (r : Chan) :
    setupFails img (2 + r.val) = true ↔
      img.outside (2 + r.val) 0 3 ∨ ∃ q : Chan, q < r ∧ (img.field (2 + q.val)).toNat = (img.field (2 + r.val)).toNat := by
  have htest : setupFails img (2 + r.val) = (!within (img.field (2 + r.val)) 0 3 ||
      (List.range r.val).any fun j => img.field (2 + j) == img.field (2 + r.val)) := by
    fin_cases r <;> rfl
  rw [htest, Bool.or_eq_true, Bool.not_eq_true', within_eq_false_iff, List.any_eq_true]
  refine or_congr_right ⟨fun ⟨j, hj, h⟩ => ?_, fun ⟨q, hq, h⟩ => ?_⟩
  · have hlt : j < r.val := List.mem_range.mp hj
    exact ⟨⟨j, by omega⟩, hlt, congrArg BitVec.toNat (beq_iff_eq.mp h)⟩
  · exact ⟨q.val, List.mem_range.mpr hq, beq_iff_eq.mpr (BitVec.eq_of_toNat_eq h)⟩

theorem Image.breaksSetup_slot (img : Image) (r : Chan) :
    img.breaksSetup (2 + r.val) ↔
      img.outside (2 + r.val) 0 3 ∨ ∃ q : Chan, q < r ∧ (img.field (2 + q.val)).toNat = (img.field (2 + r.val)).toNat := by
  constructor
  · rintro (⟨hplace, -⟩ | ⟨hplace, -⟩ | ⟨q, hplace, h⟩ | ⟨hplace, -⟩ | ⟨hplace, -⟩ | ⟨hplace, -⟩ | ⟨hplace, -⟩)
    case inr.inr.inl =>
      obtain rfl : r = q := Fin.ext (by omega)
      exact h
    all_goals omega
  · exact fun h => .inr (.inr (.inl ⟨r, rfl, h⟩))

theorem fieldFails_setup_iff (img : Image) {i : Nat} (hi : i < 10) : fieldFails img i = true ↔ img.breaksSetup i := by
  rw [fieldFails, if_pos hi]
  by_cases hslot : 2 ≤ i ∧ i ≤ 5
  · obtain ⟨r, rfl⟩ : ∃ r : Chan, i = 2 + r.val := ⟨⟨i - 2, by omega⟩, by simp only; omega⟩
    rw [setupFails_slot, img.breaksSetup_slot]
  · have hplace (r : Chan) : i ≠ 2 + r.val := by omega
    have hnsat : img.nsat = (img.field 7).toNat % 256 := rfl
    have hpost : img.postTrigger = (img.field 7).toNat / 256 := rfl
    obtain rfl | rfl | rfl | rfl | rfl | rfl : i = 0 ∨ i = 1 ∨ i = 6 ∨ i = 7 ∨ i = 8 ∨ i = 9 := by omega
    all_goals simp [setupFails, Image.breaksSetup, within_eq_false_iff, hplace, hnsat, hpost]

/-! ### Roller records -/

theorem fieldFails_roller (img : Image) (r : Chan) {o : Nat} (ho : o < 15) :
    fieldFails img (10 + 15 * r.val + o) = rollerFails img r o := by
  have hroller : Fin.ofNat 4 ((10 + 15 * r.val + o - 10) / 15) = r := Fin.ext (by simp only [Fin.val_ofNat]; omega)
  have hoffset : (10 + 15 * r.val + o - 10) % 15 = o := by omega
  rw [fieldFails, if_neg (by omega), if_pos (by omega), hroller, hoffset]

theorem Image.inCouplingGroup_iff (img : Image) (r : Chan) :
    img.inCouplingGroup r = true ↔
      ∃ g : Chan, (img.field (10 + 15 * r.val)).toNat = g.val ∧ 2 ≤ (img.members g).length := by
  simp only [← Image.groupOf_eq_some_iff, Image.inCouplingGroup]
  cases img.groupOf r with
  | none => simp
  | some g => simp [Image.isCouplingGroup]

theorem fieldFails_roller_iff (img : Image) (r : Chan) {o : Nat} (ho : o < 15) :
    fieldFails img (10 + 15 * r.val + o) = true ↔ img.breaksRoller r (10 + 15 * r.val + o) := by
  rw [fieldFails_roller img r ho, Image.breaksRoller]
  have hcurve : img.curveRef r = (img.field (10 + 15 * r.val + 3)).toNat := rfl
  have htmin : img.tmin r = (img.field (10 + 15 * r.val + 6)).toInt := rfl
  have htmax : img.tmax r = (img.field (10 + 15 * r.val + 7)).toInt := rfl
  have hclear : img.clearTorque r = (img.field (10 + 15 * r.val + 8)).toInt := rfl
  interval_cases o <;>
    simp [rollerFails, within_eq_false_iff, withinTorque_eq_false_iff, Image.inCouplingGroup_iff, Image.roller, hcurve,
      Image.curveCount, Image.pitch, htmin, htmax, hclear, and_assoc, and_comm]

/-! ### Group records -/

theorem fieldFails_group (img : Image) (g : Chan) {o : Nat} (ho : o < 10) :
    fieldFails img (70 + 10 * g.val + o) = groupFails img g o := by
  have hgroup : Fin.ofNat 4 ((70 + 10 * g.val + o - 70) / 10) = g := Fin.ext (by simp only [Fin.val_ofNat]; omega)
  have hoffset : (70 + 10 * g.val + o - 70) % 10 = o := by omega
  rw [fieldFails, if_neg (by omega), if_neg (by omega), if_pos (by omega), hgroup, hoffset]

/-- Weights are not negative, so their sum is 0 just when each is. -/
theorem Image.weightSum_nonpos_iff (img : Image) (g : Chan) :
    img.weightSum g ≤ 0 ↔ ∀ r ∈ img.members g, (img.field (11 + 15 * r.val)).toNat = 0 := by
  have hweight (r : Chan) : img.weight r = (img.field (11 + 15 * r.val)).toNat := by
    rw [Image.weight, Image.roller, show 10 + 15 * r.val + 1 = 11 + 15 * r.val by omega]
  rw [Image.weightSum]
  generalize img.members g = rs
  induction rs with
  | nil => simp
  | cons r rs ih =>
    have hrest : 0 ≤ (rs.map img.weight).sum := List.sum_nonneg (by simp [hweight])
    rw [List.map_cons, List.sum_cons, List.forall_mem_cons, hweight]
    refine Iff.trans ?_ (and_congr_right fun _ => ih)
    omega

theorem fieldFails_group_iff (img : Image) (g : Chan) {o : Nat} (ho : o < 10) :
    fieldFails img (70 + 10 * g.val + o) = true ↔
      2 ≤ (img.members g).length ∧ img.breaksGroup g (70 + 10 * g.val + o) := by
  rw [fieldFails_group img g ho, Image.breaksGroup]
  interval_cases o <;>
    simp [groupFails, Image.isCouplingGroup, Image.group, within_eq_false_iff, Image.weightSum_nonpos_iff, Image.w1,
      Image.w2]

/-! ### Curves and the Reaction table -/

theorem fieldFails_curve (img : Image) (c : Chan) {o : Nat} (ho : o < 33) :
    fieldFails img (110 + 33 * c.val + o) = curveFails img (c.val + 1) o := by
  have hcurve : (110 + 33 * c.val + o - 110) / 33 + 1 = c.val + 1 := by omega
  have hoffset : (110 + 33 * c.val + o - 110) % 33 = o := by omega
  rw [fieldFails, if_neg (by omega), if_neg (by omega), if_neg (by omega), if_pos (by omega), hcurve, hoffset]

theorem countValid_iff (m : Nat) : countValid m = true ↔ m = 0 ∨ (2 ≤ m ∧ m ≤ 16) := by
  simp [countValid]

theorem Image.breaksCurve_count (img : Image) (c : Chan) :
    img.breaksCurve c (110 + 33 * c.val) ↔
      (img.field (110 + 33 * c.val)).toNat ≠ 0 ∧
        ((img.field (110 + 33 * c.val)).toNat < 2 ∨ 16 < (img.field (110 + 33 * c.val)).toNat) := by
  rw [Image.breaksCurve]
  generalize (img.field (110 + 33 * c.val)).toNat = m
  constructor
  · rintro (⟨-, h⟩ | ⟨-, -, j, -, ⟨hplace, -⟩ | ⟨hplace, -⟩⟩)
    · exact h
    · omega
    · omega
  · exact fun h => .inl ⟨rfl, h⟩

/-- A record holds 16 breakpoints, so that a speed's place is no ratio's. -/
theorem Image.breaksCurve_speed (img : Image) (c : Chan) {j : Nat} (hj : j < 16) :
    img.breaksCurve c (110 + 33 * c.val + 1 + j) ↔
      countValid (img.field (110 + 33 * c.val)).toNat = true ∧ j < (img.field (110 + 33 * c.val)).toNat ∧
        if j = 0 then (img.field (110 + 33 * c.val + 1 + j)).toInt < 0
        else (img.field (110 + 33 * c.val + 1 + j)).toInt ≤ (img.field (110 + 33 * c.val + 1 + j - 1)).toInt := by
  rw [Image.breaksCurve, countValid_iff]
  generalize (img.field (110 + 33 * c.val)).toNat = m
  constructor
  · rintro (⟨hplace, -⟩ | ⟨hlow, hhigh, i, hi, ⟨hplace, h⟩ | ⟨hplace, -⟩⟩)
    · omega
    · obtain rfl : j = i := by omega
      exact ⟨.inr ⟨hlow, hhigh⟩, hi, h⟩
    · omega
  · rintro ⟨hcount, hlt, h⟩
    exact .inr ⟨by omega, by omega, j, hlt, .inl ⟨rfl, h⟩⟩

theorem Image.breaksCurve_ratio (img : Image) (c : Chan) {j : Nat} :
    img.breaksCurve c (110 + 33 * c.val + 17 + j) ↔
      countValid (img.field (110 + 33 * c.val)).toNat = true ∧ j < (img.field (110 + 33 * c.val)).toNat ∧
        img.outside (110 + 33 * c.val + 17 + j) 32768 131072 := by
  rw [Image.breaksCurve, countValid_iff]
  generalize (img.field (110 + 33 * c.val)).toNat = m
  constructor
  · rintro (⟨hplace, -⟩ | ⟨hlow, hhigh, i, hi, ⟨hplace, -⟩ | ⟨hplace, h⟩⟩)
    · omega
    · omega
    · obtain rfl : j = i := by omega
      exact ⟨.inr ⟨hlow, hhigh⟩, hi, h⟩
  · rintro ⟨hcount, hlt, h⟩
    exact .inr ⟨by omega, by omega, j, hlt, .inr ⟨rfl, h⟩⟩

theorem curveFails_speed (img : Image) (c : Chan) {j : Nat} (hj : j < 16) :
    curveFails img (c.val + 1) (1 + j) = true ↔ img.breaksCurve c (110 + 33 * c.val + 1 + j) := by
  have hcount : img.curveCount (c.val + 1) = (img.field (110 + 33 * c.val)).toNat := rfl
  have hspeed (n : Nat) : img.curveSpeed (c.val + 1) n = (img.field (110 + 33 * c.val + 1 + n)).toInt := rfl
  rw [curveFails, if_neg (by omega), if_pos (by omega), Nat.add_sub_cancel_left, img.breaksCurve_speed c hj, hcount,
    Bool.and_eq_true, Bool.and_eq_true, decide_eq_true_eq, and_assoc]
  cases j with
  | zero => simp [hspeed]
  | succ j =>
    have hprev : 1 + (j + 1) - 2 = j := by omega
    have hplace : 110 + 33 * c.val + 1 + (j + 1) - 1 = 110 + 33 * c.val + 1 + j := by omega
    rw [if_neg (by omega), if_neg (by omega), decide_eq_true_eq, hprev, hplace, hspeed, hspeed]

theorem curveFails_ratio (img : Image) (c : Chan) {j : Nat} :
    curveFails img (c.val + 1) (17 + j) = true ↔ img.breaksCurve c (110 + 33 * c.val + 17 + j) := by
  have hcount : img.curveCount (c.val + 1) = (img.field (110 + 33 * c.val)).toNat := rfl
  have hratio : img.curveRatio (c.val + 1) j = (img.field (110 + 33 * c.val + 17 + j)).toNat := rfl
  rw [curveFails, if_neg (by omega), if_neg (by omega), Nat.add_sub_cancel_left, img.breaksCurve_ratio, hcount, hratio,
    Bool.and_eq_true, Bool.and_eq_true, decide_eq_true_eq, and_assoc, Image.outside, Bool.not_eq_true',
    Bool.and_eq_false_iff, decide_eq_false_iff_not, decide_eq_false_iff_not]
  refine and_congr_right fun _ => and_congr_right fun _ => ?_
  omega

theorem fieldFails_curve_iff (img : Image) (c : Chan) {o : Nat} (ho : o < 33) :
    fieldFails img (110 + 33 * c.val + o) = true ↔ img.breaksCurve c (110 + 33 * c.val + o) := by
  rw [fieldFails_curve img c ho]
  obtain rfl | ⟨j, hj, rfl⟩ | ⟨j, rfl⟩ : o = 0 ∨ (∃ j < 16, o = 1 + j) ∨ ∃ j, o = 17 + j := by
    by_cases hcount : o = 0
    · exact .inl hcount
    · by_cases hspeed : o < 17
      · exact .inr (.inl ⟨o - 1, by omega, by omega⟩)
      · exact .inr (.inr ⟨o - 17, by omega⟩)
  · have hcount : img.curveCount (c.val + 1) = (img.field (110 + 33 * c.val)).toNat := rfl
    rw [curveFails, if_pos rfl, show 110 + 33 * c.val + 0 = 110 + 33 * c.val from rfl, img.breaksCurve_count,
      Bool.not_eq_true', Bool.eq_false_iff, Ne, countValid_iff, hcount]
    omega
  · rw [← Nat.add_assoc]
    exact curveFails_speed img c hj
  · rw [← Nat.add_assoc]
    exact curveFails_ratio img c

theorem fieldFails_reaction_iff (img : Image) {k : Nat} (hk : k < 12) :
    fieldFails img (242 + k) = true ↔ img.breaksReaction (242 + k) := by
  rw [fieldFails, if_neg (by omega), if_neg (by omega), if_neg (by omega), if_neg (by omega),
    show 242 + k - 241 = k + 1 by omega, reactionFails, Bool.not_eq_true', show 241 + (k + 1) = 242 + k by omega,
    within_eq_false_iff, Image.breaksReaction]
  have hbounds : (reactionBounds (k + 1)).2.2 = 4 ∧ (reactionBounds (k + 1)).2.1 =
      if k = 0 ∨ k = 1 then 4 else if k = 4 ∨ k = 6 then 2 else if k = 7 ∨ k = 9 ∨ k = 10 then 3 else 0 := by
    interval_cases k <;> decide
  rw [hbounds.1, hbounds.2]
  refine ⟨fun h => ⟨k, hk, rfl, h⟩, fun ⟨j, _, hplace, h⟩ => ?_⟩
  obtain rfl : k = j := by omega
  exact h

/-! ### The regions together -/

theorem Image.breaksSetup_place {img : Image} {i : Nat} (h : img.breaksSetup i) : i < 10 := by
  rcases h with ⟨h, -⟩ | ⟨h, -⟩ | ⟨r, h, -⟩ | ⟨h, -⟩ | ⟨h, -⟩ | ⟨h, -⟩ | ⟨h, -⟩ <;> omega

theorem Image.breaksRoller_place {img : Image} {r : Chan} {i : Nat} (h : img.breaksRoller r i) :
    ∃ o < 15, i = 10 + 15 * r.val + o := by
  have hplace : 10 + 15 * r.val ≤ i ∧ i < 25 + 15 * r.val := by
    rcases h with ⟨h, -⟩ | ⟨h, -⟩ | ⟨h, -⟩ | ⟨h, -⟩ | ⟨h, -⟩ | ⟨h, -⟩ | ⟨h, -⟩ | ⟨h, -⟩ | ⟨h, -⟩ | ⟨h, -⟩ | ⟨h, -⟩ |
      ⟨h, -⟩ | ⟨h, -⟩ | ⟨h, -⟩ | ⟨h, -⟩ <;> omega
  exact ⟨i - (10 + 15 * r.val), by omega, by omega⟩

theorem Image.breaksGroup_place {img : Image} {g : Chan} {i : Nat} (h : img.breaksGroup g i) :
    ∃ o < 10, i = 70 + 10 * g.val + o := by
  have hplace : 70 + 10 * g.val ≤ i ∧ i < 80 + 10 * g.val := by
    rcases h with ⟨h, -⟩ | ⟨h, -⟩ | ⟨h, -⟩ | ⟨h, -⟩ | ⟨h, -⟩ | ⟨h, -⟩ | ⟨h, -⟩ | ⟨h, -⟩ | ⟨h, -⟩ | ⟨h, -⟩ <;> omega
  exact ⟨i - (70 + 10 * g.val), by omega, by omega⟩

theorem Image.breaksCurve_place {img : Image} {c : Chan} {i : Nat} (h : img.breaksCurve c i) :
    ∃ o < 33, i = 110 + 33 * c.val + o := by
  rcases h with ⟨h, -⟩ | ⟨-, hcount, j, hj, ⟨h, -⟩ | ⟨h, -⟩⟩
  · exact ⟨0, by decide, h⟩
  · exact ⟨1 + j, by omega, by omega⟩
  · exact ⟨17 + j, by omega, by omega⟩

/-- Every field lies in one region of the image (R144). -/
theorem field_region {i : Nat} (hi : i < 254) :
    i < 10 ∨ (∃ (r : Chan) (o : Nat), o < 15 ∧ i = 10 + 15 * r.val + o) ∨
      (∃ (g : Chan) (o : Nat), o < 10 ∧ i = 70 + 10 * g.val + o) ∨
      (∃ (c : Chan) (o : Nat), o < 33 ∧ i = 110 + 33 * c.val + o) ∨ ∃ k < 12, i = 242 + k := by
  by_cases hsetup : i < 10
  · exact .inl hsetup
  by_cases hroller : i < 70
  · exact .inr (.inl ⟨⟨(i - 10) / 15, by omega⟩, (i - 10) % 15, by omega, by simp only; omega⟩)
  by_cases hgroup : i < 110
  · exact .inr (.inr (.inl ⟨⟨(i - 70) / 10, by omega⟩, (i - 70) % 10, by omega, by simp only; omega⟩))
  by_cases hcurve : i < 242
  · exact .inr (.inr (.inr (.inl ⟨⟨(i - 110) / 33, by omega⟩, (i - 110) % 33, by omega, by simp only; omega⟩)))
  · exact .inr (.inr (.inr (.inr ⟨i - 242, by omega, by omega⟩)))

/-- A field fails exactly when a check of R147 attributed to it fails. -/
theorem fieldFails_iff (img : Image) {i : Nat} (hi : i < 254) : fieldFails img i = true ↔ img.breaksCheck i := by
  rw [img.breaksCheck_iff]
  constructor
  · intro h
    rcases field_region hi with hsetup | ⟨r, o, ho, rfl⟩ | ⟨g, o, ho, rfl⟩ | ⟨c, o, ho, rfl⟩ | ⟨k, hk, rfl⟩
    · exact .inl ((fieldFails_setup_iff img hsetup).mp h)
    · exact .inr (.inl ⟨r, (fieldFails_roller_iff img r ho).mp h⟩)
    · exact .inr (.inr (.inl ⟨g, (fieldFails_group_iff img g ho).mp h⟩))
    · exact .inr (.inr (.inr (.inl ⟨c, (fieldFails_curve_iff img c ho).mp h⟩)))
    · exact .inr (.inr (.inr (.inr ((fieldFails_reaction_iff img hk).mp h))))
  · rintro (h | ⟨r, h⟩ | ⟨g, hg, h⟩ | ⟨c, h⟩ | h)
    · exact (fieldFails_setup_iff img (Image.breaksSetup_place h)).mpr h
    · obtain ⟨o, ho, rfl⟩ := Image.breaksRoller_place h
      exact (fieldFails_roller_iff img r ho).mpr h
    · obtain ⟨o, ho, rfl⟩ := Image.breaksGroup_place h
      exact (fieldFails_group_iff img g ho).mpr ⟨hg, h⟩
    · obtain ⟨o, ho, rfl⟩ := Image.breaksCurve_place h
      exact (fieldFails_curve_iff img c ho).mpr h
    · obtain ⟨k, hk, rfl, -⟩ := id h
      exact (fieldFails_reaction_iff img hk).mpr h

end Sys2Proof.Machine
end

section
/-! THEOREMS. COMMIT judged at the head and the end of its check (O51, R153, R154). -/

namespace Sys2Proof.Machine

/-! ### The maintenance fields (R145) -/

/-- A roller record's maintenance fields are those at offsets 4 to 10 and 13. -/
theorem isMaintenance_iff (i : Nat) :
    isMaintenance i = true ↔
      i = 0 ∨ (2 ≤ i ∧ i ≤ 5) ∨
        ∃ (r : Chan) (o : Nat), ((4 ≤ o ∧ o ≤ 10) ∨ o = 13) ∧ i = 10 + 15 * r.val + o := by
  simp only [isMaintenance, Bool.or_eq_true, Bool.and_eq_true, beq_iff_eq, decide_eq_true_eq, or_assoc]
  refine or_congr_right (or_congr_right ⟨fun ⟨⟨hlow, hhigh⟩, ho⟩ => ?_, fun ⟨r, o, ho, hi⟩ => ?_⟩)
  · exact ⟨⟨(i - 10) / 15, by omega⟩, (i - 10) % 15, ho, by simp only; omega⟩
  · omega

theorem maintenanceDiffers_iff (x y : Image) :
    maintenanceDiffers x y = true ↔ ∃ i, i < 254 ∧ isMaintenance i = true ∧ x.field i ≠ y.field i := by
  simp [maintenanceDiffers, mem_maintenanceFields, and_assoc]

/-! ### COMMIT at the head (R153, R160, R161) -/

theorem State.allAtRest_iff_state (s : State) :
    s.allAtRest = true ↔ ∀ g, (s.coupling.get g).state = .detached ∨ (s.coupling.get g).state = .suspended := by
  simp [s.allAtRest_iff, GroupState.atRest]

/-- A request taken into an empty queue is the head at once, and is performed. -/
theorem State.request_of_takesAtOnce {s : State} (h : s.takesAtOnce) (kind : Byte) (area : RequestArea) :
    s.request kind area = (s.asHead ⟨kind, area⟩).performKind ⟨kind, area⟩ := by
  obtain ⟨halive, hqueue⟩ := h
  rw [State.request, if_pos halive]
  rcases s.handOver_cases ⟨kind, area⟩ with ⟨-, -, hover⟩ | ⟨-, hne, -⟩ | ⟨hfull, -⟩
  · exact hover
  · exact absurd hqueue hne
  · simp [hqueue, Config.queueCapacity] at hfull

theorem exec_commit_of_takesAtOnce {s : State} (h : s.takesAtOnce) (area : RequestArea) :
    exec (.commit area) s = .next ((s.asHead ⟨5, area⟩).performCommit ⟨5, area⟩) :=
  congrArg Host.Outcome.next (State.request_of_takesAtOnce h 5 area)

theorem exec_commit_of_refused {s : State} (h : s.takesAtOnce) (area : RequestArea) {o : Result}
    (hrefusal : s.commitRefusal = some o) :
    exec (.commit area) s = .next (s.answered ⟨5, area⟩
      ⟨5, area.tag, o, area.index, area.count, [0, 0, 0, 0, 0, 0, 0, 0]⟩) := by
  have hhead : (s.asHead ⟨5, area⟩).commitRefusal = some o := hrefusal
  rw [exec_commit_of_takesAtOnce h, State.performCommit, hhead]
  rfl

theorem exec_commit_of_accepted {s : State} (h : s.takesAtOnce) (area : RequestArea) (hrefusal : s.commitRefusal = none) :
    exec (.commit area) s = .next ((s.asHead ⟨5, area⟩).withImages { s.images with
      commit := { s.images.commit with state := .checking, expected := area.data.getD 0 0, age := 0 } }) := by
  have hhead : (s.asHead ⟨5, area⟩).commitRefusal = none := hrefusal
  rw [exec_commit_of_takesAtOnce h, State.performCommit, hhead]
  rfl

theorem State.commitRefusal_of_open {s : State} (hopen : s.images.transfer.isOpen = true) :
    s.commitRefusal = some .refusedBusy := if_pos hopen

theorem State.commitRefusal_of_moving {s : State} (hclosed : s.images.transfer.isOpen = false)
    (hmoving : s.allAtRest = false) : s.commitRefusal = some .refusedState := by
  simp [State.commitRefusal, hclosed, hmoving]

theorem State.commitRefusal_of_rest {s : State} (hclosed : s.images.transfer.isOpen = false) (hrest : s.allAtRest = true) :
    s.commitRefusal = if maintenanceDiffers s.images.staging s.images.active = true ∧ s.images.setupLine = false then
      some .refusedProtected else none := by
  simp [State.commitRefusal, hclosed, hrest]

/-! ### The end of the check (R154) -/

theorem exec_commitCheckEnd_of_checking {s : State} (halive : s.alive = true) (h : s.images.commit.state = .checking) :
    exec .commitCheckEnd s = .next s.endCheck := by
  have hdue : (s.alive && s.images.commit.state == .checking) = true := by rw [halive, h]; rfl
  exact congrArg Host.Outcome.next (if_pos hdue)

theorem exec_commitCheckEnd_of_idle {s : State} (h : s.images.commit.state ≠ .checking) :
    exec .commitCheckEnd s = .next s := by
  have hdue : ¬ (s.alive && s.images.commit.state == .checking) = true := by simp [h]
  exact congrArg Host.Outcome.next (if_neg hdue)

/-- The head's answer, formed once the check's outcome stands in the commit record. -/
theorem State.answerHead_withCheck {s : State} {q : Request} {rest : List Request} (h : s.service.queue = q :: rest)
    (state : CommitState) (f : Request → Response) :
    (s.withCheck state).answerHead f = (s.withCheck state).answer (f q) := by
  have hqueue : (s.withCheck state).service.queue = q :: rest := h
  rw [State.answerHead, hqueue]

/-- A field that fails, with none below it that does, is the one validation names. -/
theorem validate_eq_some {img : Image} {i : Nat} (hi : i < 254) (hfails : fieldFails img i = true)
    (hlowest : ∀ j, j < i → fieldFails img j = false) : validate img = some i := by
  rw [validate, List.find?_range_eq_some]
  exact ⟨hfails, List.mem_range.mpr hi, fun j hj => by rw [hlowest j hj]; rfl⟩

theorem validate_eq_none {img : Image} (h : ∀ i, i < 254 → fieldFails img i = false) : validate img = none :=
  Option.isNone_iff_eq_none.mp ((Image.valid_iff img).mpr h)

theorem State.endCheck_of_wrongCrc {s : State} {q : Request} {rest : List Request} (hqueue : s.service.queue = q :: rest)
    (hcrc : s.images.commit.expected ≠ (imageCrc s.images.staging).setWidth 32) :
    s.endCheck = (s.withCheck .none).answer (respond q .refusedCheck [(imageCrc s.images.staging).setWidth 32]) := by
  rw [State.endCheck]
  dsimp only
  rw [if_pos hcrc, State.answerHead_withCheck hqueue]

theorem State.endCheck_of_fails {s : State} {q : Request} {rest : List Request} (hqueue : s.service.queue = q :: rest)
    (hcrc : s.images.commit.expected = (imageCrc s.images.staging).setWidth 32) {i : Nat}
    (hfails : validate s.images.staging = some i) :
    s.endCheck = (s.withCheck .none).answer
      { respond q .refusedInvalid [(imageCrc s.images.staging).setWidth 32] with index := BitVec.ofNat 16 i } := by
  rw [State.endCheck]
  dsimp only
  rw [if_neg (not_not.mpr hcrc), hfails]
  exact State.answerHead_withCheck hqueue _ _

theorem State.endCheck_of_valid {s : State} (hcrc : s.images.commit.expected = (imageCrc s.images.staging).setWidth 32)
    (hvalid : validate s.images.staging = none) : s.endCheck = s.withCheck .ready := by
  rw [State.endCheck]
  dsimp only
  rw [if_neg (not_not.mpr hcrc), hvalid]

/-- Settles O51: a COMMIT taken at once is judged by `State.commitRefusal`, whose tests stand in R153's order; its check ends
with the CRC's comparison and then the validation's lowest failing field. -/
theorem commitJudgedAndChecked : Obligations.CommitJudgedAndChecked := by
  refine ⟨isMaintenance_iff, fun img i hi => fieldFails_iff img hi, fun area s htakes => ?judged,
    fun s h => exec_commitCheckEnd_of_idle h, fun s q rest halive hchecking hqueue => ?checked⟩
  case judged =>
    simp only [← maintenanceDiffers_iff, ← State.allAtRest_iff_state]
    refine ⟨fun hopen => ?_, fun hclosed hmoving => ?_, fun hclosed hrest hdiffers hline => ?_,
      fun hclosed hrest hfree => ?_⟩
    · exact exec_commit_of_refused htakes area (State.commitRefusal_of_open hopen)
    · exact exec_commit_of_refused htakes area (State.commitRefusal_of_moving hclosed (Bool.eq_false_iff.mpr hmoving))
    · exact exec_commit_of_refused htakes area ((State.commitRefusal_of_rest hclosed hrest).trans (if_pos ⟨hdiffers, hline⟩))
    · exact exec_commit_of_accepted htakes area ((State.commitRefusal_of_rest hclosed hrest).trans (if_neg hfree))
  case checked =>
    rw [exec_commitCheckEnd_of_checking halive hchecking]
    refine ⟨fun hcrc => ?_, fun hcrc => ⟨fun i hi hfails hlowest => ?_, fun hpasses => ?_⟩⟩
    · exact congrArg Host.Outcome.next (State.endCheck_of_wrongCrc hqueue hcrc)
    · exact congrArg Host.Outcome.next (State.endCheck_of_fails hqueue hcrc (validate_eq_some hi hfails hlowest))
    · exact congrArg Host.Outcome.next (State.endCheck_of_valid hcrc (validate_eq_none hpasses))

end Sys2Proof.Machine
end

section
/-! A single occurrence: the Fault store, the levels, the group states, the exclusions and the History buffer (R57, R94, R97,
R99, R110). -/

namespace Sys2Proof.Machine

/-- The groups an occurrence affects, by the scope of its kind (R97). -/
theorem appliesTo_iff (img : Image) (k : FaultKind) (c g : Chan) :
    appliesTo img k c g = true ↔ k.scopeKind = .part ∨ (k.scopeKind = .roller ∧ img.groupOf c = some g) ∨
      (k.scopeKind = .group ∧ c = g) := by
  unfold appliesTo
  cases k.scopeKind <;> simp [Image.isMember]

/-- An affected group's level becomes the greater of its level and the configured one (R97). -/
theorem State.occurrence_level_of_applies {s : State} {k : FaultKind} {c g : Chan} (h : appliesTo s.active k c g = true) :
    ((s.occurrence k c).reaction.levels.get g).code =
      Max.max (s.reaction.levels.get g).code (s.configuredLevel k).code := by
  rw [State.occurrence_reaction, Quad.get_ofFn, if_pos h, Level.code_max]

/-- No other group's level changes (R97). -/
theorem State.occurrence_level_of_not_applies {s : State} {k : FaultKind} {c g : Chan}
    (h : ¬ appliesTo s.active k c g = true) :
    (s.occurrence k c).reaction.levels.get g = s.reaction.levels.get g := by
  rw [State.occurrence_reaction, Quad.get_ofFn, if_neg h]

/-- A roller kind configured at DEGRADE leaves its roller's exclusion pending, and no other exclusion changes (R99). -/
theorem State.occurrence_exclusion (s : State) (k : FaultKind) (c r : Chan) :
    (s.occurrence k c).reaction.exclusions.get r =
      if k.scopeKind = .roller ∧ s.configuredLevel k = .degrade ∧ r = c then true else s.reaction.exclusions.get r := by
  simp only [State.occurrence_reaction]
  by_cases h : k.scopeKind = .roller ∧ s.configuredLevel k = .degrade
  · obtain ⟨hscope, hlevel⟩ := h
    simp only [hscope, hlevel, true_and, and_self, if_true, Quad.get_set]
  · rw [if_neg h, if_neg fun ⟨hscope, hlevel, _⟩ => h ⟨hscope, hlevel⟩]

/-- Settles O21: the Fault store, the levels with their groups' states, the exclusions and the History buffer, each by the
rule for it, and nothing else. -/
theorem occurrenceRecordedAndEscalated : Obligations.OccurrenceRecordedAndEscalated := by
  intro s k scope
  simp only [← appliesTo_iff]
  obtain ⟨hrestart, hestop⟩ := s.takeReport_flags (.occurrence k scope)
  refine ⟨_, _, _, s.occurrence_only k scope, hrestart, hestop, ?_, fun g => State.occurrence_level_of_applies,
    fun g => State.occurrence_level_of_not_applies, s.occurrence_afterLevelChange k scope, s.occurrence_exclusion k scope,
    s.occurrence_afterOffer k scope⟩
  rw [State.occurrence_reaction]
  exact recordFault_recordsOccurrence _ _ _ _

end Sys2Proof.Machine
end

section
/-! The history stage: the record it adds by the buffer's state, and the words of that record (R108, R109). -/

namespace Sys2Proof.Machine

/-! ### The buffer after the stage (R109) -/

/-- The ring with its oldest record removed where it is full, as the statements say it. -/
theorem addRecord_eq (ring : List CycleRecord) (c : CycleRecord) :
    addRecord ring c = (if ring.length < 64 then ring else ring.drop 1) ++ [c] := by
  rw [addRecord, ← ite_not]
  simp only [Config.ringCapacity, Nat.not_le]

theorem History.record_of_recording {h : History} (hstate : h.state = .recording) (c : CycleRecord) :
    h.record c = { h with ring := addRecord h.ring c } := by
  rw [History.record, hstate]

theorem History.record_of_postTrigger {h : History} (hstate : h.state = .postTrigger) (c : CycleRecord) :
    h.record c = ⟨addRecord h.ring c, if h.remainder - 1 = 0 then .frozen else .postTrigger, h.remainder - 1⟩ := by
  rw [History.record, hstate]

theorem History.record_of_frozen {h : History} (hstate : h.state = .frozen) (c : CycleRecord) : h.record c = h := by
  rw [History.record, hstate]

/-! ### The words of a record (R108) -/

/-- Bit `i` of digit `n` in base 16 stands at `4 * n + i`. -/
theorem testBit_ofDigits_block {i : Nat} (hi : i < 4) :
    ∀ (xs : List Nat) (n x : Nat), (∀ y ∈ xs, y < 2 ^ 4) → xs[n]? = some x →
      (Nat.ofDigits (2 ^ 4) xs).testBit (4 * n + i) = x.testBit i
  | [], _, _, _, h => by simp at h
  | y :: ys, 0, x, hlt, h => by
    obtain rfl : y = x := by simpa using h
    rw [Nat.ofDigits_cons, Nat.add_comm, Nat.testBit_two_pow_mul_add _ (hlt y (by simp)), Nat.mul_zero,
      Nat.zero_add, if_pos hi]
  | y :: ys, n + 1, x, hlt, h => by
    rw [Nat.ofDigits_cons, Nat.add_comm, Nat.testBit_two_pow_mul_add _ (hlt y (by simp)), if_neg (by omega),
      show 4 * (n + 1) + i - 4 = 4 * n + i by omega]
    exact testBit_ofDigits_block hi ys n x (fun z hz => hlt z (by simp [hz])) (by simpa using h)

/-- The flags of a roller in the order of their bits. -/
def RollerRecord.flag (x : RollerRecord) : Fin 4 → Bool := ![x.stale, x.included, x.clamped, x.substituted]

theorem RollerRecord.flags_eq (x : RollerRecord) : x.flags = Nat.ofBits x.flag := by
  simp only [RollerRecord.flags, bitValue_eq, RollerRecord.flag, ofBits_vecCons, Nat.ofBits_zero]
  ring

namespace CycleRecord

variable (c : CycleRecord)

/-- Word 17 holds the rollers' flags as its digits in base 16. -/
theorem words_flags :
    c.words.getD 17 0 = wordOfNat (Nat.ofDigits (2 ^ 4) (channels.map fun r => (c.rollers.get r).flags)) := by
  refine congrArg wordOfNat ?_
  simp only [channels, List.map_cons, List.map_nil, List.sum_cons, List.sum_nil, Nat.ofDigits_cons, Nat.ofDigits_nil]
  norm_num
  ring

theorem words_flag (r : Chan) (i : Fin 4) :
    (c.words.getD 17 0).getLsbD (4 * r.val + i.val) = (c.rollers.get r).flag i := by
  have hdigit : (channels.map fun r => (c.rollers.get r).flags)[r.val]? = some (c.rollers.get r).flags := by
    rw [List.getElem?_map, channels_getElem?, Option.map_some]
  have hlt : ∀ y ∈ channels.map fun r => (c.rollers.get r).flags, y < 2 ^ 4 := fun y hy => by
    obtain ⟨r, -, rfl⟩ := List.mem_map.mp hy
    rw [RollerRecord.flags_eq]
    exact Nat.ofBits_lt_two_pow _
  rw [words_flags, wordOfNat, BitVec.getLsbD_ofNat, testBit_ofDigits_block i.isLt _ _ _ hlt hdigit, RollerRecord.flags_eq,
    Nat.testBit_ofBits_lt _ _ i.isLt, decide_eq_true (show 4 * r.val + i.val < 32 by omega), Bool.true_and]

/-- The four values of a roller follow the count and the values of the rollers before it. -/
theorem words_values (r : Chan) :
    c.words.getD (1 + 4 * r.val) 0 = BitVec.ofInt 32 (c.rollers.get r).v ∧
    c.words.getD (2 + 4 * r.val) 0 = BitVec.ofInt 32 (c.rollers.get r).e ∧
    c.words.getD (3 + 4 * r.val) 0 = BitVec.ofInt 32 (c.rollers.get r).qOut ∧
    c.words.getD (4 + 4 * r.val) 0 = BitVec.ofInt 32 (c.rollers.get r).written := by
  fin_cases r <;> exact ⟨rfl, rfl, rfl, rfl⟩

theorem words_length : c.words.length = 18 := rfl

theorem words_past {i : Nat} (hi : 18 ≤ i) : c.words.getD i 0 = 0 :=
  List.getD_eq_default _ _ (by rw [words_length]; exact hi)

end CycleRecord

/-- Settles O45: the record of the computation is the one the stage takes, and its words are the count, four values a roller
and the flags. -/
theorem historyStageRecords : Obligations.HistoryStageRecords := by
  intro s
  dsimp only
  simp only [← addRecord_eq]
  refine ⟨s.cycleRecord, fun hstate => ?recording, fun hstate => ?postTrigger, fun hstate => ?frozen, rfl, fun r => ?values,
    rfl, fun r => ?words, fun i hi => s.cycleRecord.words_past hi⟩
  case recording => exact History.record_of_recording hstate _
  case postTrigger =>
    have hrecord : s.historyStage.history = _ := History.record_of_postTrigger hstate _
    rw [hrecord]
    exact ⟨rfl, rfl, fun hlast => if_pos (by omega), fun hmore => if_neg (by omega)⟩
  case frozen => exact History.record_of_frozen hstate _
  case values =>
    have hroller : s.cycleRecord.rollers.get r = s.rollerRecord r := Quad.get_ofFn _ r
    rw [hroller]
    exact ⟨rfl, rfl, rfl, rfl, rfl, rfl, rfl, by simp [State.rollerRecord]⟩
  case words =>
    obtain ⟨hv, he, hq, hwritten⟩ := s.cycleRecord.words_values r
    exact ⟨hv, he, hq, hwritten, s.cycleRecord.words_flag r 0, s.cycleRecord.words_flag r 1, s.cycleRecord.words_flag r 2,
      s.cycleRecord.words_flag r 3⟩

end Sys2Proof.Machine
end

section
/-! Every property that resets, events, hand-overs and computations keep holds after every step (R92, R104, R122, R133). -/

namespace Sys2Proof.Machine

/-- A property that the parts of every command keep. -/
structure KeptByParts (P : State → Prop) : Prop where
  pending : ∀ {s : State} (cs : List Instr), P s → P { s with pending := cs }
  resetHeld : ∀ {s : State} (b : Bool), P s → P (s.withResetHeld b)
  clock : ∀ {s : State} (n : Nat), P s → P (s.withClock n)
  resetBlocks : ∀ s : State, P s.resetBlocks
  endReset : ∀ {s : State}, P s → P s.endReset
  happens : ∀ {s : State} (e : Event), P s → P (s.happens e)
  handOver : ∀ {s : State} (q : Request), P s → P (s.handOver q)
  computeCycle : ∀ {s : State} (start : CycleStart) (during : List MidEvent) (point : Nat), P s →
    P (s.computeCycle start during point)
  accepted : ∀ {s : State} (d : Option (List Byte)), P s → P (s.withCellPort { s.cellPort with accepted := d })
  handDown : ∀ {s : State} (origin : DemandOrigin) (bytes : List Byte) (latency : Nat), P s →
    P (s.handDown origin bytes latency)

namespace KeptByParts

variable {P : State → Prop} (kept : KeptByParts P) {s : State}
include kept

theorem tick (h : P s) (n : Nat) : P (s.tick n) := kept.clock _ h

theorem runAccepted (h : P s) (course : Course) (point : Nat) : P (s.runAccepted course point) := by
  unfold State.runAccepted
  split
  · exact kept.handDown _ _ _ (kept.accepted _ (kept.computeCycle _ _ _ h))
  · exact h

theorem demandComes (h : P s) (elapsed : Nat) (course : Course) (bytes : List Byte) :
    P (s.demandComes elapsed course bytes) := by
  unfold State.demandComes
  split
  · exact kept.runAccepted (kept.happens (.demandReception bytes) (kept.tick h elapsed)) course 0
  · exact kept.tick h elapsed

theorem substituteExpires (h : P s) (expiry : Nat) (course : Course) : P (s.substituteExpires expiry course) :=
  kept.runAccepted (kept.handDown _ _ _ (kept.computeCycle _ _ _ (kept.clock _ h))) course 7

theorem request (h : P s) (kind : Byte) (area : RequestArea) : P (s.request kind area) := by
  unfold State.request
  split
  · exact kept.handOver _ h
  · exact h

/-- An event taken as a command, at its moment and while the unit takes it. -/
theorem eventComes (h : P s) (elapsed : Nat) (e : Event) :
    P (if s.alive then (s.tick elapsed).happens e else s.tick elapsed) := by
  split
  · exact kept.happens e (kept.tick h elapsed)
  · exact kept.tick h elapsed

/-- Every command is a reset, an event, the hand-over of a request or a computation. -/
theorem exec (h : P s) (c : Instr) : ∃ t, Machine.exec c s = .next t ∧ P t := by
  cases c with
  | powerOn =>
    refine ⟨_, rfl, ?_⟩
    split
    · exact kept.resetBlocks _
    · exact kept.endReset (kept.resetBlocks _)
  | resetInputAssert => exact ⟨_, rfl, kept.resetBlocks _⟩
  | powerFailure => exact ⟨_, rfl, kept.resetBlocks _⟩
  | resetInputRelease =>
    refine ⟨_, rfl, ?_⟩
    split
    · split
      · exact kept.endReset (kept.resetHeld false h)
      · exact kept.resetHeld false h
    · exact h
  | estopAssert => exact ⟨_, rfl, kept.happens .estopAssert h⟩
  | estopRelease => exact ⟨_, rfl, kept.happens .estopRelease h⟩
  | setupChange active => exact ⟨_, rfl, kept.happens (.setupChange active) h⟩
  | deadlineExpiry => exact ⟨_, rfl, kept.happens .deadlineExpiry h⟩
  | commitCheckEnd => exact ⟨_, rfl, kept.happens .commitCheckEnd h⟩
  | calibrationWriteEnd => exact ⟨_, rfl, kept.happens .calibrationWriteEnd h⟩
  | feedbackReception elapsed bytes => exact ⟨_, rfl, kept.eventComes h elapsed (.feedbackReception bytes)⟩
  | feedbackSent elapsed => exact ⟨_, rfl, kept.eventComes h elapsed .feedbackSent⟩
  | demandReception elapsed course bytes => exact ⟨_, rfl, kept.demandComes h elapsed course bytes⟩
  | demandSent elapsed course =>
    refine ⟨_, rfl, ?_⟩
    split
    · exact kept.runAccepted (kept.happens .demandSent (kept.tick h elapsed)) course 0
    · exact kept.tick h elapsed
  | substituteExpiry course =>
    refine ⟨_, rfl, ?_⟩
    split
    · split
      · exact kept.substituteExpires h _ course
      · exact h
    · exact h
  | engage g carrier | release g carrier | clear g carrier => exact ⟨_, rfl, kept.demandComes h _ _ _⟩
  | clearPart carrier | capture carrier | rearm carrier | clearRestart carrier =>
    exact ⟨_, rfl, kept.demandComes h _ _ _⟩
  | read area | openTransfer area | transferData area | closeTransfer area | commit area | liveWrite area
  | setLiveWindow area | groupControl area | storeCalibration area | restart area | describe area =>
    exact ⟨_, rfl, kept.request h _ area⟩
  | unknownKind kind area => exact ⟨_, rfl, kept.request h kind area⟩

theorem step {t : State} (h : P s) (hstep : step s = .next t) : P t := by
  unfold Machine.step at hstep
  split at hstep
  · cases hstep
    exact h
  case h_2 c rest _ =>
    obtain ⟨u, hexec, hu⟩ := kept.exec (kept.pending rest h) c
    rw [hexec] at hstep
    cases hstep
    exact hu

end KeptByParts

end Sys2Proof.Machine
end

section
/-! The ring stays within 64 records in the order of the computations, whatever a command does (R107, R109 to R113). -/

namespace Sys2Proof.Machine

/-! ### A buffer in order (R107, R109) -/

/-- The second record is of the computation after the first one's. -/
def CycleRecord.PrecedesNext (a b : CycleRecord) : Prop := b.count = a.count + 1

/-- A buffer in order whose newest record, while it is not FROZEN, has the cycle count given. -/
structure History.OrderedTo (h : History) (newest : Word) : Prop where
  bound : h.ring.length ≤ 64
  chain : List.IsChain CycleRecord.PrecedesNext h.ring
  newest : h.state ≠ .frozen → ∀ c ∈ h.ring.getLast?, c.count = newest
  remainder : 0 < h.remainder ↔ h.state = .postTrigger

theorem History.orderedTo_reset (newest : Word) : History.reset.OrderedTo newest :=
  ⟨by decide, .nil, by simp [History.reset], by decide⟩

/-- A trigger leaves the ring and sets a remainder in POST-TRIGGER alone (R112). -/
theorem History.OrderedTo.afterTrigger {h h' : History} {newest : Word} (hordered : h.OrderedTo newest) {n : Nat}
    (htrigger : afterTrigger h h' n) : h'.OrderedTo newest := by
  obtain ⟨hbound, hchain, hnewest, hremainder⟩ := hordered
  obtain ⟨hcounts, hfreezes, hignored⟩ := htrigger
  by_cases hrecording : h.state = .recording
  · have hnewest := hnewest (by rw [hrecording]; decide)
    rcases Nat.eq_zero_or_pos n with hn | hn
    · rw [hfreezes hrecording hn]
      exact ⟨hbound, hchain, fun h => absurd rfl h, by simp⟩
    · rw [hcounts hrecording hn]
      exact ⟨hbound, hchain, fun _ => hnewest, by simp [hn]⟩
  · rw [hignored hrecording]
    exact ⟨hbound, hchain, hnewest, hremainder⟩

/-- The record of the next computation is added in order, within the ring's bound (R109). -/
theorem addRecord_ordered {ring : List CycleRecord} {newest : Word} (hbound : ring.length ≤ 64)
    (hchain : List.IsChain CycleRecord.PrecedesNext ring) (hnewest : ∀ c ∈ ring.getLast?, c.count = newest)
    {c : CycleRecord} (hcount : c.count = newest + 1) :
    (addRecord ring c).length ≤ 64 ∧ List.IsChain CycleRecord.PrecedesNext (addRecord ring c) ∧
    ∀ d ∈ (addRecord ring c).getLast?, d.count = newest + 1 := by
  have hadded : ∀ n, List.IsChain CycleRecord.PrecedesNext (ring.drop n ++ [c]) := fun n => by
    refine (hchain.drop n).append (.singleton c) fun a ha b hb => ?_
    obtain rfl : c = b := by simpa using hb
    rw [List.getLast?_drop] at ha
    split at ha
    · cases ha
    · rw [CycleRecord.PrecedesNext, hnewest a ha, hcount]
  rw [addRecord_eq]
  split
  case isTrue hroom => exact ⟨by simpa using hroom, hadded 0, by simp [hcount]⟩
  case isFalse => exact ⟨by simp; omega, hadded 1, by simp [hcount]⟩

/-- The history stage brings the buffer up to the computation (R109). -/
theorem History.OrderedTo.record {h : History} {newest : Word} (hordered : h.OrderedTo newest) {c : CycleRecord}
    (hcount : c.count = newest + 1) : (h.record c).OrderedTo (newest + 1) := by
  obtain ⟨hbound, hchain, hnewest, hremainder⟩ := hordered
  cases hstate : h.state with
  | recording =>
    obtain ⟨hbound', hchain', hnewest'⟩ := addRecord_ordered hbound hchain (hnewest (by rw [hstate]; decide)) hcount
    rw [History.record_of_recording hstate]
    exact ⟨hbound', hchain', fun _ => hnewest', hremainder⟩
  | postTrigger =>
    obtain ⟨hbound', hchain', hnewest'⟩ := addRecord_ordered hbound hchain (hnewest (by rw [hstate]; decide)) hcount
    rw [History.record_of_postTrigger hstate]
    refine ⟨hbound', hchain', fun _ => hnewest', ?_⟩
    by_cases hlast : h.remainder - 1 = 0
    · simp [hlast]
    · simp [hlast, Nat.pos_of_ne_zero hlast]
  | frozen =>
    rw [History.record_of_frozen hstate]
    exact ⟨hbound, hchain, fun h => absurd hstate h, hremainder⟩

/-! ### A buffer behind the cycle count -/

/-- The buffer is in order up to the computation `lag` before the one counted last: 1 while a computation runs that has not
reached its history stage, 0 otherwise. -/
def State.recordsBehind (s : State) (lag : Word) : Prop := s.history.OrderedTo (s.timer.cycleCount - lag)

theorem State.recordsBehind_zero_iff (s : State) : s.recordsBehind 0 ↔ s.history.OrderedTo s.timer.cycleCount := by
  have hcount : s.timer.cycleCount - 0 = s.timer.cycleCount := BitVec.sub_zero _
  rw [State.recordsBehind, hcount]

theorem State.historyOk_iff (s : State) : s.historyOk ↔ s.recordsBehind 0 := by
  rw [State.recordsBehind_zero_iff]
  exact ⟨fun ⟨hbound, hchain, hnewest, hremainder⟩ => ⟨hbound, hchain, hnewest, hremainder⟩,
    fun ⟨hbound, hchain, hnewest, hremainder⟩ => ⟨hbound, hchain, hnewest, hremainder⟩⟩

namespace State.recordsBehind

variable {s t : State} {lag : Word}

/-- The rules on what each operation leaves unchanged say that it leaves the buffer and the cycle count. -/
theorem keep (h : s.recordsBehind lag) (hhistory : t.history = s.history := by simp)
    (hcount : t.timer.cycleCount = s.timer.cycleCount := by simp) : t.recordsBehind lag := by
  rwa [State.recordsBehind, hhistory, hcount]

/-! ### Reports (R96, R110) -/

theorem occurrence (h : s.recordsBehind lag) (k : FaultKind) (c : Chan) : (s.occurrence k c).recordsBehind lag := by
  have hcount : (s.occurrence k c).timer.cycleCount = s.timer.cycleCount := by simp
  obtain ⟨htriggers, hignored⟩ := s.occurrence_afterOffer k c
  rw [State.recordsBehind, hcount]
  by_cases hreaches : 1 ≤ s.active.triggerLevel ∧ s.active.triggerLevel ≤ (s.configuredLevel k).code
  · exact History.OrderedTo.afterTrigger h (htriggers hreaches)
  · rw [hignored hreaches]
    exact h

/-- The reports of a stage trigger the buffer or leave it. -/
theorem reportsTo (h : s.recordsBehind lag) {event : FaultKind → Chan → Prop} (hreports : s.reportsTo t event)
    (hcount : t.timer.cycleCount = s.timer.cycleCount := by simp) : t.recordsBehind lag := by
  obtain ⟨-, -, -, -, -, -, -, -, htriggers, hignored⟩ := hreports
  rw [State.recordsBehind, hcount]
  by_cases hreaches : ∃ k c, ((s.cause k c = false ∧ t.cause k c = true) ∨ event k c) ∧
      1 ≤ s.active.triggerLevel ∧ s.active.triggerLevel ≤ (s.configuredLevel k).code
  · exact History.OrderedTo.afterTrigger h (htriggers hreaches)
  · rw [hignored hreaches]
    exact h

/-! ### Resets and events -/

theorem resetBlocks (s : State) : s.resetBlocks.recordsBehind lag := History.orderedTo_reset _

theorem endReset (h : s.recordsBehind lag) : s.endReset.recordsBehind lag := by
  unfold State.endReset
  dsimp only
  split
  · exact occurrence (h.keep) _ _
  · exact h.keep

theorem assertEstop (h : s.recordsBehind lag) : s.assertEstop.recordsBehind lag := by
  unfold State.assertEstop
  dsimp only
  split
  · exact occurrence (h.keep) _ _
  · exact h.keep

theorem deadlineComes (h : s.recordsBehind lag) : s.deadlineComes.recordsBehind lag := by
  have hexpires : ∀ d, (s.deadlineExpires d).recordsBehind lag := fun d => by
    have hlost : ((s.withClock (max s.clock d)).withTimer
        { s.timer with link := .lost, deadline := none }).recordsBehind lag := h.keep
    exact (hlost.occurrence .linkLost 0).keep (by simp [State.deadlineExpires]) (by simp [State.deadlineExpires])
  unfold State.deadlineComes
  split
  · split
    · exact hexpires _
    · exact h
  · exact h

theorem demandPassage (h : s.recordsBehind lag) (bytes : List Byte) (m : Nat) :
    (s.demandPassage bytes m).recordsBehind lag := by
  have htold : (s.validDemand m).recordsBehind lag := h.keep (hcount := by simp [State.validDemand_timer])
  have hbad : (s.badDemand bytes).recordsBehind lag := by
    have hcounted := occurrence (h.keep (t := s.withCellPort { s.cellPort with
      demandErrors := satInc 65535 s.cellPort.demandErrors })) .demandCheck 0
    unfold State.badDemand
    dsimp only
    split
    · exact hcounted
    · exact hcounted.keep
  unfold State.demandPassage State.goodDemandPassage
  split
  · split
    · exact htold.keep (hcount := rfl)
    · exact htold.keep
  · exact hbad

theorem receiveDemand (h : s.recordsBehind lag) (bytes : List Byte) : (s.receiveDemand bytes).recordsBehind lag := by
  unfold State.receiveDemand
  split
  · exact h.keep
  · exact h.demandPassage _ _

theorem finishDemand (h : s.recordsBehind lag) : s.finishDemand.recordsBehind lag := by
  unfold State.finishDemand
  split
  · exact h
  · have hnext : (s.withDrivePort { s.drivePort with sending := none }).sendNext.recordsBehind lag := h.keep
    unfold State.beginWaitingDemand
    split
    · exact hnext
    · split
      · exact hnext
      · exact demandPassage hnext.keep _ _

theorem feedbackPassage (h : s.recordsBehind lag) (bytes : List Byte) : (s.feedbackPassage bytes).recordsBehind lag := by
  have hbad : (s.badFeedback bytes).recordsBehind lag := by
    have hcounted := occurrence (h.keep (t := s.withDrivePort { s.drivePort with
      feedbackErrors := satInc 65535 s.drivePort.feedbackErrors })) .feedbackCheck 0
    unfold State.badFeedback
    dsimp only
    split
    · exact hcounted
    · exact hcounted.keep
  unfold State.feedbackPassage
  split
  · exact h.keep
  · exact hbad

theorem receiveFeedback (h : s.recordsBehind lag) (bytes : List Byte) : (s.receiveFeedback bytes).recordsBehind lag := by
  unfold State.receiveFeedback
  split
  · exact h.keep
  · exact h.feedbackPassage bytes

theorem finishFeedback (h : s.recordsBehind lag) : s.finishFeedback.recordsBehind lag := by
  have hwaiting : ∀ {u : State}, u.recordsBehind lag → u.beginWaitingFeedback.recordsBehind lag := fun hu => by
    unfold State.beginWaitingFeedback
    split
    · exact hu
    · exact feedbackPassage hu.keep _
  unfold State.finishFeedback
  split
  · exact h
  · dsimp only
    split
    · split
      · exact endReset (resetBlocks _)
      · exact hwaiting h.keep
    · exact hwaiting h.keep

theorem happens (h : s.recordsBehind lag) (e : Event) : (s.happens e).recordsBehind lag := by
  cases e with
  | estopAssert => exact h.assertEstop
  | estopRelease => exact h.keep (t := s.releaseEstop)
  | setupChange active => exact h.keep (t := s.changeSetup active)
  | demandReception bytes => exact h.receiveDemand bytes
  | demandSent => exact h.finishDemand
  | feedbackReception bytes => exact h.receiveFeedback bytes
  | feedbackSent => exact h.finishFeedback
  | deadlineExpiry => exact h.deadlineComes
  | commitCheckEnd => exact h.keep (t := s.checkEnds)
  | calibrationWriteEnd => exact h.keep (t := s.writeEnds)

theorem tick (h : s.recordsBehind lag) (n : Nat) : (s.tick n).recordsBehind lag := h.keep

theorem takeEvent (h : s.recordsBehind lag) (e : MidEvent) : (s.takeEvent e).recordsBehind lag := by
  unfold State.takeEvent
  split
  · exact (h.tick e.elapsed).happens e.event
  · exact h

end State.recordsBehind

/-! ### A computation (R53, R109, R111, R113) -/

/-- REARM empties the ring and CAPTURE triggers it, so a set leaves the buffer in order (R111, R113). -/
theorem State.performSet_recordsBehind {s : State} {lag : Word} (h : s.recordsBehind lag) (w : Word) :
    (s.performSet w).recordsBehind lag := by
  have hrearmed : (s.rearmed w).OrderedTo (s.timer.cycleCount - lag) := by
    unfold State.rearmed
    split
    · exact History.orderedTo_reset _
    · exact h
  have hcount : (s.performSet w).timer.cycleCount = s.timer.cycleCount := by simp
  rw [State.recordsBehind, hcount, State.performSet_history]
  split
  · exact hrearmed.afterTrigger (History.afterTrigger_trigger _ _)
  · exact hrearmed

/-- The start of a computation leaves the buffer one computation behind. -/
theorem State.startCycle_recordsBehind {s : State} (h : s.recordsBehind 0) (start : CycleStart) :
    (s.startCycle start).recordsBehind 1 := by
  have hwork : (s.startWork start).recordsBehind 1 := by
    have hhistory : (s.startWork start).history = s.history := by simp
    rw [State.recordsBehind, hhistory, State.startWork_cycleCount, BitVec.add_sub_cancel]
    exact s.recordsBehind_zero_iff.mp h
  unfold State.startCycle State.groupFunctionPoint
  split
  case h_1 q _ _ _ =>
    split
    · exact (State.performSet_recordsBehind hwork (q.dataWord 0)).keep
    · exact hwork
  · exact hwork

/-- While a computation runs its record is due; once a reset has abandoned it none is, the ring being empty (R122). -/
def State.recordDue (s : State) : Prop := s.recordsBehind 1 ∧ (s.timer.computing = none → s.recordsBehind 0)

/-- An event keeps the record due, or is a reset, which empties the ring. -/
theorem State.recordDue.takeEvent {s : State} (h : s.recordDue) (e : MidEvent) : (s.takeEvent e).recordDue := by
  obtain ⟨hbehind, habandoned⟩ := h
  refine ⟨hbehind.takeEvent e, ?_⟩
  unfold State.takeEvent
  split
  case isTrue hrunning =>
    intro hnone
    rcases (s.tick e.elapsed).happens_cases e.event with same | ⟨u, hreset⟩
    · have hsame : s.timer.computing = none := same.computing.symm.trans hnone
      rw [hsame] at hrunning
      cases hrunning
    · rw [hreset]
      exact State.recordsBehind.endReset (State.recordsBehind.resetBlocks u)
  case isFalse => exact habandoned

/-- The stages before the history stage. -/
def stagesToRecord (old : Option Image) (sent : Bool) : List (State → State) :=
  [fun s => s.speedSettling old sent, State.referenceStage, State.couplingStage, fun s => s.compositionStage old,
    State.monitoringStage]

theorem cycleStages_eq_record (old : Option Image) (sent : Bool) :
    cycleStages old sent = stagesToRecord old sent ++ [State.historyStage] := rfl

/-- A stage before the history stage triggers the buffer at most. -/
theorem State.stage_recordsBehind {old : Option Image} {sent : Bool} {f : State → State}
    (hf : f ∈ stagesToRecord old sent) {s : State} {lag : Word} (h : s.recordsBehind lag) : (f s).recordsBehind lag := by
  simp only [stagesToRecord, List.mem_cons, List.not_mem_nil, or_false] at hf
  rcases hf with rfl | rfl | rfl | rfl | rfl
  · exact h.reportsTo (s.speedSettling_reportsTo old sent)
  · exact h.reportsTo s.referenceStage_reportsCauses
  · exact h.keep
  · exact h.reportsTo (s.compositionStage_reportsCauses old)
  · exact h.reportsTo s.monitoringStage_reportsCauses

theorem State.stage_recordDue {old : Option Image} {sent : Bool} {f : State → State} (hf : f ∈ stagesToRecord old sent)
    {s : State} (h : s.recordDue) : (f s).recordDue := by
  have hstage : f ∈ cycleStages old sent := by
    rw [cycleStages_eq_record]
    exact List.mem_append_left _ hf
  refine ⟨State.stage_recordsBehind hf h.1, fun hnone => ?_⟩
  rw [cycleStages_computing old sent f hstage] at hnone
  exact State.stage_recordsBehind hf (h.2 hnone)

/-- The history stage adds the record that was due (R109). -/
theorem State.historyStage_recordsBehind {s : State} (h : s.recordsBehind 1) : s.historyStage.recordsBehind 0 := by
  have hnext : s.timer.cycleCount - 1 + 1 = s.timer.cycleCount := BitVec.sub_add_cancel _ _
  have hrecord := History.OrderedTo.record h (c := s.cycleRecord) hnext.symm
  rw [hnext] at hrecord
  exact s.historyStage.recordsBehind_zero_iff.mpr hrecord

theorem State.recordsBehind.computeCycle {s : State} (h : s.recordsBehind 0) (start : CycleStart)
    (during : List MidEvent) (point : Nat) : (s.computeCycle start during point).recordsBehind 0 := by
  have hdue : (s.startCycle start).recordDue := by
    refine ⟨State.startCycle_recordsBehind h start, fun hnone => ?_⟩
    have hrunning := s.startCycle_computing start
    rw [hnone] at hrunning
    cases hrunning
  rw [State.computeCycle, cycleStages_eq_record]
  exact State.runFrom_reaches (P := State.recordDue) (Q := (State.recordsBehind · 0)) (after := [])
    (fun g hg u hu => State.stage_recordDue hg hu) (fun e _ u hu => hu.takeEvent e) (fun u hnone hu => hu.2 hnone)
    (fun u hu => State.historyStage_recordsBehind hu.1) nofun (fun e _ u hu => hu.takeEvent e) point _ hdue

/-! ### Every step -/

theorem recordsUpToDate_kept : KeptByParts (State.recordsBehind · 0) where
  pending _ h := h
  resetHeld _ h := h
  clock _ h := h
  resetBlocks _ := State.recordsBehind.resetBlocks _
  endReset h := h.endReset
  happens e h := h.happens e
  handOver _ h := h.keep
  computeCycle start during point h := h.computeCycle start during point
  accepted _ h := h
  handDown _ _ _ h := by
    unfold State.handDown
    split
    · exact h.keep (by simp) (by simp [State.endCycle])
    · exact h

/-- Settles O6: a computation advances the count and its history stage, which no reset abandoned, adds the one record that is
due; every other change empties the ring, triggers the buffer or leaves it. -/
theorem stepKeepsHistoryInOrder : Obligations.StepKeepsHistoryInOrder := fun s t h hstep =>
  t.historyOk_iff.mpr (recordsUpToDate_kept.step (s.historyOk_iff.mp h) hstep)

end Sys2Proof.Machine
end

section
/-! The Demands the unit builds: where their parts stand, and what their slots carry (R117, R119, R124, R125, R137). -/

namespace Sys2Proof.Machine

/-! ### The slot map (R5, R147) -/

/-- In a valid image the slot positions lie within the telegram and are all different (R147). -/
theorem Image.slotOf_permutes {img : Image} (h : img.valid = true) :
    (∀ r, img.slotOf r < 4) ∧ Function.Injective img.slotOf := by
  have hslot (r : Chan) : ¬ (img.outside (2 + r.val) 0 3 ∨
      ∃ q : Chan, q < r ∧ (img.field (2 + q.val)).toNat = (img.field (2 + r.val)).toNat) := by
    rw [← img.breaksSetup_slot, ← fieldFails_setup_iff img (by omega), Bool.not_eq_true]
    exact img.valid_iff.mp h _ (by omega)
  refine ⟨fun r => ?_, fun r q heq => ?_⟩
  · have hin : ¬ img.outside (2 + r.val) 0 3 := fun hout => hslot r (.inl hout)
    simp only [Image.outside, not_or, Nat.not_lt] at hin
    exact Nat.lt_succ_of_le hin.2
  · rcases lt_trichotomy r q with hlt | rfl | hlt
    · exact absurd (.inr ⟨r, hlt, heq⟩) (hslot q)
    · rfl
    · exact absurd (.inr ⟨q, hlt, heq.symm⟩) (hslot r)

/-- In a valid image a channel is the one at its own slot position (R5, R124). -/
theorem channelAt_slotPosition {img : Image} (h : img.valid = true) (r : Chan) :
    channelAt img (slotPosition img r) = some r := by
  obtain ⟨hlt, hinj⟩ := Image.slotOf_permutes h
  have hplace : (slotPosition img r).val = img.slotOf r := Nat.mod_eq_of_lt (hlt r)
  cases hfind : channelAt img (slotPosition img r) with
  | none => simpa [hplace] using List.find?_eq_none.mp hfind r (mem_channels r)
  | some q =>
    have hq : (img.slotOf q == (slotPosition img r).val) = true :=
      List.find?_some (p := fun q => img.slotOf q == (slotPosition img r).val) hfind
    rw [hplace, beq_iff_eq] at hq
    rw [hinj hq]

/-! ### Flags and slots (R74, R124) -/

theorem withEnable_getLsbD_zero (flags : Byte) (enable : Bool) : (withEnable flags enable).getLsbD 0 = enable := by
  cases enable <;> simp [withEnable]

/-- Flags 1 to 7 are as received (R74). -/
theorem withEnable_getLsbD (flags : Byte) (enable : Bool) {i : Nat} (h1 : 1 ≤ i) (h7 : i ≤ 7) :
    (withEnable flags enable).getLsbD i = flags.getLsbD i := by
  have hmask : (0xFE : Byte).getLsbD i = true ∧ (1 : Byte).getLsbD i = false := by
    interval_cases i <;> decide
  rw [withEnable, BitVec.getLsbD_or, BitVec.getLsbD_and, hmask.1, Bool.and_true]
  cases enable with
  | false => simp
  | true => rw [if_pos rfl, hmask.2, Bool.or_false]

/-- The slot the unit sends at a position: the composed channel's written torque and ENABLE, the other flags as given. -/
def State.sentSlot (s : State) (slots : Quad Slot) (p : Chan) : Slot :=
  match channelAt s.active p with
  | some r =>
    ⟨BitVec.ofInt 16 (s.composer.get r).lastWritten, withEnable (slots.get p).flags (s.composer.get r).enable⟩
  | none => slots.get p

theorem State.slotBytes_eq (s : State) (slots : Quad Slot) (p : Chan) :
    s.slotBytes slots p = bytesOfHalf (s.sentSlot slots p).torque ++ [(s.sentSlot slots p).flags] := by
  unfold State.slotBytes State.sentSlot
  cases channelAt s.active p <;> rfl

/-- A channel's slot carries its written torque and ENABLE, and flags 1 to 7 of the slot given (R124). -/
theorem State.sentSlot_of_valid {s : State} (h : s.active.valid = true) (slots : Quad Slot) (r : Chan) :
    (s.sentSlot slots (slotPosition s.active r)).torque = BitVec.ofInt 16 (s.composer.get r).lastWritten ∧
    (s.sentSlot slots (slotPosition s.active r)).enable = (s.composer.get r).enable ∧
    ∀ i, 1 ≤ i → i ≤ 7 → (s.sentSlot slots (slotPosition s.active r)).flags.getLsbD i =
      (slots.get (slotPosition s.active r)).flags.getLsbD i := by
  rw [State.sentSlot, channelAt_slotPosition h]
  exact ⟨rfl, withEnable_getLsbD_zero _ _, fun i => withEnable_getLsbD _ _⟩

/-! ### A Demand the unit builds -/

/-- A Demand with the unit's slots between the parts given, sealed. -/
def State.builtDemand (s : State) (head : List Byte) (slots : Quad Slot) (area : List Byte) : List Byte :=
  sealed (head ++ channels.flatMap (s.slotBytes slots) ++ area)

theorem State.editedDemand_eq (s : State) (bytes : List Byte) :
    s.editedDemand bytes = s.builtDemand (bytes.take 4) (demandSlots bytes) (forwardedArea bytes) := rfl

theorem State.substituteDemand_eq (s : State) :
    s.substituteDemand = s.builtDemand ([1, 1] ++ bytesOfHalf s.substituteSequence) s.heldSlots emptyArea := rfl

theorem State.slots_length (s : State) (slots : Quad Slot) : (channels.flatMap (s.slotBytes slots)).length = 12 := by
  simp [channels, State.slotBytes_eq]

section
variable (s : State) {head area : List Byte} (slots : Quad Slot) (hhead : head.length = 4)
include hhead

theorem State.builtDemand_take : (s.builtDemand head slots area).take 4 = head := by
  rw [State.builtDemand, sealed, List.append_assoc, List.append_assoc, ← hhead, List.take_left]

/-- The slots are read back from their places (R117). -/
theorem State.demandSlot_builtDemand (p : Chan) :
    demandSlot (s.builtDemand head slots area) p = s.sentSlot slots p := by
  have hplace : s.builtDemand head slots area = head ++ (channels.flatMap (s.slotBytes slots) ++ (area ++
      bytesOfHalf (crc16 (head ++ channels.flatMap (s.slotBytes slots) ++ area)))) := by
    simp only [State.builtDemand, sealed, List.append_assoc]
  have hslots : channels.flatMap (s.slotBytes slots) = channels.flatMap fun p =>
      bytesOfHalf (s.sentSlot slots p).torque ++ [(s.sentSlot slots p).flags] :=
    congrArg channels.flatMap (funext (s.slotBytes_eq slots))
  have htorque := halfAt_append_right hhead (channels.flatMap (s.slotBytes slots) ++ (area ++
      bytesOfHalf (crc16 (head ++ channels.flatMap (s.slotBytes slots) ++ area)))) (3 * p.val)
  have hflags := byteAt_append_right hhead (channels.flatMap (s.slotBytes slots) ++ (area ++
      bytesOfHalf (crc16 (head ++ channels.flatMap (s.slotBytes slots) ++ area)))) (2 + 3 * p.val)
  rw [← hplace] at htorque hflags
  rw [demandSlot, htorque, show 6 + 3 * p.val = 4 + (2 + 3 * p.val) by omega, hflags, hslots]
  refine congrArg₂ Slot.mk (halfAt_of_bytes ?_ ?_) ?_ <;> fin_cases p <;> rfl

variable (harea : area.length = 39)
include harea

theorem State.builtDemand_area : ((s.builtDemand head slots area).drop 16).take 39 = area := by
  have hpre : (head ++ channels.flatMap (s.slotBytes slots)).length = 16 := by
    rw [List.length_append, hhead, State.slots_length]
  exact take_drop_of_append hpre harea

theorem State.builtDemand_good (hkind : byteAt head 0 = 1) : goodDemand (s.builtDemand head slots area) = true := by
  obtain ⟨b, rest, rfl⟩ := List.exists_cons_of_length_pos (show 0 < head.length by omega)
  refine sealed_good (n := 55) ?_ (by decide) hkind
  rw [List.length_append, List.length_append, hhead, State.slots_length, harea]

end

/-! ### An edited Demand (R124, R125) -/

theorem goodDemand_layout {bytes : List Byte} (h : goodDemand bytes = true) :
    bytes.length = 57 ∧ byteAt bytes 0 = 1 := by
  simp only [goodDemand, goodTelegram, Bool.and_eq_true, beq_iff_eq] at h
  obtain ⟨⟨hlength, hkind⟩, -⟩ := h
  exact ⟨hlength, hkind⟩

section
variable {bytes : List Byte} (h : goodDemand bytes = true)
include h

theorem goodDemand_head : (bytes.take 4).length = 4 ∧ byteAt (bytes.take 4) 0 = 1 := by
  obtain ⟨hlength, hkind⟩ := goodDemand_layout h
  refine ⟨by simp [hlength], ?_⟩
  obtain ⟨b, rest, rfl⟩ := List.exists_cons_of_length_pos (show 0 < bytes.length by omega)
  exact hkind

theorem forwardedArea_length : (forwardedArea bytes).length = 39 := by
  obtain ⟨hlength, -⟩ := goodDemand_layout h
  unfold forwardedArea
  split
  · rfl
  · simp [hlength]

theorem State.editedDemand_good (s : State) : goodDemand (s.editedDemand bytes) = true :=
  s.editedDemand_eq bytes ▸ State.builtDemand_good s _ (goodDemand_head h).1 (forwardedArea_length h) (goodDemand_head h).2

theorem State.editedDemand_take (s : State) : (s.editedDemand bytes).take 4 = bytes.take 4 :=
  State.builtDemand_take s _ (goodDemand_head h).1

theorem State.editedDemand_area (s : State) : ((s.editedDemand bytes).drop 16).take 39 = forwardedArea bytes :=
  State.builtDemand_area s _ (goodDemand_head h).1 (forwardedArea_length h)

theorem State.demandSlot_editedDemand (s : State) (p : Chan) :
    demandSlot (s.editedDemand bytes) p = s.sentSlot (demandSlots bytes) p :=
  State.demandSlot_builtDemand s _ (goodDemand_head h).1 p

end

/-- Settles O23: each channel's slot stands at the position its slot map entry names, and the other parts are those of the
Demand received. -/
theorem editedDemandCarriesWrittenTorques : Obligations.EditedDemandCarriesWrittenTorques := by
  intro s bytes hvalid hgood
  refine ⟨fun r => ?_, s.editedDemand_take hgood, fun hpart => ?_, fun hother => ?_⟩
  · obtain ⟨htorque, henable, hflags⟩ := State.sentSlot_of_valid hvalid (demandSlots bytes) r
    rw [State.demandSlot_editedDemand hgood]
    refine ⟨htorque, henable, fun i h1 h7 => ?_⟩
    rw [hflags i h1 h7, demandSlots, Quad.get_ofFn]
  · rw [State.editedDemand_area hgood, forwardedArea, if_pos hpart]
    rfl
  · rw [State.editedDemand_area hgood, forwardedArea, if_neg hother]

/-! ### A substitute Demand (R137) -/

theorem State.substituteDemand_good (s : State) : goodDemand s.substituteDemand = true :=
  s.substituteDemand_eq ▸ State.builtDemand_good s _ rfl rfl rfl

theorem State.substituteDemand_area (s : State) : (s.substituteDemand.drop 16).take 39 = List.replicate 39 0 :=
  State.builtDemand_area s _ rfl rfl

theorem State.sequenceOf_substituteDemand (s : State) : sequenceOf s.substituteDemand = s.substituteSequence :=
  halfAt_of_bytes rfl rfl

theorem State.demandSlot_substituteDemand (s : State) (p : Chan) :
    demandSlot s.substituteDemand p = s.sentSlot s.heldSlots p := State.demandSlot_builtDemand s _ rfl p

end Sys2Proof.Machine
end

section
/-! Every telegram at a port's output is good or certain to be found wrong, whatever a command does (R119, R120, R123, R126,
R127, R130, R137). -/

namespace Sys2Proof.Machine

/-! ### Telegrams whose check words are right or inverted (R119) -/

/-- A telegram at the Drive port: poisoned with an inverted check word, or a good Demand. -/
def Outgoing.checked (o : Outgoing) : Prop :=
  (o.origin = .poisoned → 3 ≤ o.bytes.length ∧ carriedCheck o.bytes = ~~~ checkOf o.bytes) ∧
  (o.origin ≠ .poisoned → goodDemand o.bytes = true)

/-- A telegram being sent up: a good Feedback, or one with an inverted check word that carries no response. -/
def SentFeedback.checked (f : SentFeedback) : Prop :=
  goodFeedback f.bytes = true ∨ (3 ≤ f.bytes.length ∧ carriedCheck f.bytes = ~~~ checkOf f.bytes ∧ f.carries = false)

/-- A poisoned forward keeps every byte but its last two, which it inverts (R119, R120). -/
theorem poison_poisonedCopy {bytes : List Byte} (h : 3 ≤ bytes.length) : poisonedCopy bytes (poison bytes) := by
  have hlength := poison_length (show 2 ≤ bytes.length by omega)
  have htake := poison_take bytes
  have hcheck := poison_check bytes
  refine ⟨hlength, by rw [hlength, htake], ?_⟩
  rw [carriedCheck, checkOf, hlength, hcheck, htake]

theorem poisoned_checked {bytes : List Byte} (h : 3 ≤ bytes.length) : Outgoing.checked ⟨.poisoned, poison bytes⟩ := by
  obtain ⟨hlength, -, hcheck⟩ := poison_poisonedCopy h
  exact ⟨fun _ => ⟨hlength ▸ h, hcheck⟩, fun hne => absurd rfl hne⟩

theorem poisonedUp_checked {bytes : List Byte} (h : 3 ≤ bytes.length) : SentFeedback.checked ⟨poison bytes, false⟩ := by
  obtain ⟨hlength, -, hcheck⟩ := poison_poisonedCopy h
  exact .inr ⟨hlength ▸ h, hcheck, rfl⟩

theorem Outgoing.checked_of_good {o : Outgoing} (ho : o.origin ≠ .poisoned) (h : goodDemand o.bytes = true) : o.checked :=
  ⟨fun hp => absurd hp ho, fun _ => h⟩

namespace State.telegramsOk

variable {s t : State}

/-- The rules on what each operation leaves unchanged say that it leaves the telegrams. -/
theorem keep (h : s.telegramsOk) (haccepted : t.cellPort.accepted = s.cellPort.accepted := by simp)
    (hup : t.cellPort.sending = s.cellPort.sending := by simp)
    (hsending : t.drivePort.sending = s.drivePort.sending := by simp)
    (hready : t.drivePort.ready = s.drivePort.ready := by simp) : t.telegramsOk := by
  rwa [State.telegramsOk, haccepted, hup, hsending, hready]

/-! ### The Drive port (R121) -/

theorem transmit (h : s.telegramsOk) {o : Outgoing} (ho : o.checked) (m : Nat) : (s.transmit o m).telegramsOk := by
  obtain ⟨haccepted, hdown, hup⟩ := h
  obtain ⟨hsending, hready⟩ := s.transmit_port o m
  have hcell : (s.transmit o m).cellPort = s.cellPort := by simp
  rw [State.telegramsOk, hcell, hsending, hready]
  refine ⟨haccepted, fun x hx => ?_, hup⟩
  rcases List.mem_cons.mp hx with rfl | hx
  · exact ho
  · exact hdown x (List.mem_append_right _ hx)

theorem driveReady (h : s.telegramsOk) {o : Outgoing} (ho : o.checked) (m : Nat) : (s.driveReady o m).telegramsOk := by
  unfold State.driveReady
  split
  · exact h.transmit ho m
  · obtain ⟨haccepted, hdown, hup⟩ := h
    refine ⟨haccepted, fun x hx => ?_, hup⟩
    rw [State.withDrivePort_drivePort, ← List.append_assoc] at hx
    rcases List.mem_append.mp hx with hx | hx
    · exact hdown x hx
    · rw [List.mem_singleton.mp hx]
      exact ho

/-- The telegram that has been sent leaves the port, and the next ready one follows it. -/
theorem sendNext (h : s.telegramsOk) : (s.withDrivePort { s.drivePort with sending := none }).sendNext.telegramsOk := by
  obtain ⟨haccepted, hdown, hup⟩ := h
  have hready : ∀ o ∈ s.drivePort.ready, o.checked := fun o ho => hdown o (List.mem_append_right _ ho)
  cases hnext : s.drivePort.ready with
  | nil =>
    rw [State.sendNext_of_nil (s := s.withDrivePort { s.drivePort with sending := none }) hnext]
    exact ⟨haccepted, by simp [hnext], hup⟩
  | cons o rest =>
    rw [State.sendNext_of_cons (s := s.withDrivePort { s.drivePort with sending := none }) hnext]
    rw [hnext] at hready
    refine State.telegramsOk.transmit ?_ (hready o (by simp)) _
    exact ⟨haccepted, fun x hx => hready x (List.mem_cons_of_mem _ hx), hup⟩

/-! ### A Demand's passage (R120, R123, R126) -/

theorem accept (h : s.telegramsOk) {bytes : List Byte} (hgood : goodDemand bytes = true) : (s.accept bytes).telegramsOk :=
  ⟨fun b hb => by cases hb; exact hgood, h.2⟩

theorem badDemand (h : s.telegramsOk) (bytes : List Byte) : (s.badDemand bytes).telegramsOk := by
  have hcounted : ((s.withCellPort { s.cellPort with
      demandErrors := satInc 65535 s.cellPort.demandErrors }).occurrence .demandCheck 0).telegramsOk := h.keep
  unfold State.badDemand
  dsimp only
  split
  · exact hcounted
  · exact hcounted.driveReady (poisoned_checked (by omega)) _

theorem demandPassage (h : s.telegramsOk) (bytes : List Byte) (m : Nat) : (s.demandPassage bytes m).telegramsOk := by
  unfold State.demandPassage State.goodDemandPassage
  split
  case isTrue hgood =>
    split
    · exact h.keep
    · exact State.telegramsOk.accept (h.keep (t := (s.validDemand m).takeRequest bytes)) hgood
  case isFalse => exact h.badDemand bytes

theorem receiveDemand (h : s.telegramsOk) (bytes : List Byte) : (s.receiveDemand bytes).telegramsOk := by
  unfold State.receiveDemand
  split
  · exact h.keep
  · exact h.demandPassage bytes _

theorem finishDemand (h : s.telegramsOk) : s.finishDemand.telegramsOk := by
  unfold State.finishDemand
  split
  · exact h
  · have hnext := h.sendNext
    unfold State.beginWaitingDemand
    split
    · exact hnext
    · split
      · exact hnext
      · exact State.telegramsOk.demandPassage hnext.keep _ _

/-! ### A Feedback's passage (R127, R130) -/

theorem sendUp (h : s.telegramsOk) {bytes : List Byte} {carries : Bool} (hf : SentFeedback.checked ⟨bytes, carries⟩) :
    (s.sendUp bytes carries).telegramsOk := by
  obtain ⟨haccepted, hdown, -⟩ := h
  exact ⟨haccepted, hdown, fun f hsent => by cases hsent; exact hf⟩

theorem feedbackPassage (h : s.telegramsOk) (bytes : List Byte) : (s.feedbackPassage bytes).telegramsOk := by
  have hcounted : ((s.withDrivePort { s.drivePort with
      feedbackErrors := satInc 65535 s.drivePort.feedbackErrors }).occurrence .feedbackCheck 0).telegramsOk := h.keep
  have hexamined : (s.examineSlots bytes).telegramsOk := h.keep
  unfold State.feedbackPassage
  split
  case isTrue hgood =>
    obtain ⟨hinserted, -⟩ := (s.examineSlots bytes).insertedFeedback_layout hgood
    have hsent (carries : Bool) :
        ((s.examineSlots bytes).sendUp ((s.examineSlots bytes).insertedFeedback bytes) carries).telegramsOk :=
      hexamined.sendUp (.inl hinserted)
    unfold State.insertAndSend
    split
    · exact (hsent true).keep
    · exact hsent false
  case isFalse =>
    unfold State.badFeedback
    dsimp only
    split
    · exact hcounted
    · exact hcounted.sendUp (poisonedUp_checked (by omega))

theorem receiveFeedback (h : s.telegramsOk) (bytes : List Byte) : (s.receiveFeedback bytes).telegramsOk := by
  unfold State.receiveFeedback
  split
  · exact h.keep
  · exact h.feedbackPassage bytes

theorem beginWaitingFeedback (h : s.telegramsOk) : s.beginWaitingFeedback.telegramsOk := by
  unfold State.beginWaitingFeedback
  split
  · exact h
  · exact State.telegramsOk.feedbackPassage h.keep _

/-! ### Resets and events -/

/-- A reset leaves no telegram at either port (R122). -/
theorem resetBlocks (s : State) : s.resetBlocks.telegramsOk := ⟨nofun, nofun, nofun⟩

theorem endReset (h : s.telegramsOk) : s.endReset.telegramsOk := h.keep

theorem finishFeedback (h : s.telegramsOk) : s.finishFeedback.telegramsOk := by
  have hsent : (s.withCellPort { s.cellPort with sending := none }).telegramsOk := ⟨h.1, h.2.1, nofun⟩
  unfold State.finishFeedback
  split
  · exact h
  · dsimp only
    split
    · split
      · exact (resetBlocks _).endReset
      · exact State.telegramsOk.beginWaitingFeedback hsent.keep
    · exact hsent.beginWaitingFeedback

theorem happens (h : s.telegramsOk) (e : Event) : (s.happens e).telegramsOk := by
  cases e with
  | estopAssert => exact h.keep (t := s.assertEstop)
  | estopRelease => exact h.keep (t := s.releaseEstop)
  | setupChange active => exact h.keep (t := s.changeSetup active)
  | demandReception bytes => exact h.receiveDemand bytes
  | demandSent => exact h.finishDemand
  | feedbackReception bytes => exact h.receiveFeedback bytes
  | feedbackSent => exact h.finishFeedback
  | deadlineExpiry => exact h.keep (t := s.deadlineComes)
  | commitCheckEnd => exact h.keep (t := s.checkEnds)
  | calibrationWriteEnd => exact h.keep (t := s.writeEnds)

theorem tick (h : s.telegramsOk) (n : Nat) : (s.tick n).telegramsOk := h

theorem takeEvent (h : s.telegramsOk) (e : MidEvent) : (s.takeEvent e).telegramsOk := by
  unfold State.takeEvent
  split
  · exact (h.tick e.elapsed).happens e.event
  · exact h

/-! ### Computations (R123, R133, R137) -/

/-- No stage touches a telegram. -/
theorem stage {old : Option Image} {sent : Bool} {f : State → State} (hf : f ∈ cycleStages old sent)
    (h : s.telegramsOk) : (f s).telegramsOk := by
  simp only [cycleStages, List.mem_cons, List.not_mem_nil, or_false] at hf
  rcases hf with rfl | rfl | rfl | rfl | rfl | rfl <;> exact h.keep

theorem computeCycle (h : s.telegramsOk) (start : CycleStart) (during : List MidEvent) (point : Nat) :
    (s.computeCycle start during point).telegramsOk :=
  State.runFrom_keeps (fun _ hf _ hu => hu.stage hf) (fun e _ _ hu => hu.takeEvent e) point _
    (h.keep (t := s.startCycle start))

theorem handDown (h : s.telegramsOk) {origin : DemandOrigin} {bytes : List Byte} (horigin : origin ≠ .poisoned)
    (hgood : goodDemand bytes = true) (latency : Nat) : (s.handDown origin bytes latency).telegramsOk := by
  unfold State.handDown
  split
  · exact State.telegramsOk.driveReady h.keep (Outgoing.checked_of_good horigin hgood) _
  · exact h

/-- A Demand accepted is good, and so is what the unit makes of it (R123). -/
theorem runAccepted (h : s.telegramsOk) (course : Course) (point : Nat) : (s.runAccepted course point).telegramsOk := by
  unfold State.runAccepted
  split
  case h_1 bytes haccepted _ =>
    have hgood : goodDemand bytes = true := h.1 bytes haccepted
    obtain ⟨-, hdown, hup⟩ := h.computeCycle (.cell (demandSlots bytes)) course.during point
    refine State.telegramsOk.handDown ?_ (by decide) (State.editedDemand_good hgood _) _
    exact ⟨nofun, hdown, hup⟩
  · exact h

theorem demandComes (h : s.telegramsOk) (elapsed : Nat) (course : Course) (bytes : List Byte) :
    (s.demandComes elapsed course bytes).telegramsOk := by
  unfold State.demandComes
  split
  · exact ((h.tick elapsed).receiveDemand bytes).runAccepted course 0
  · exact h.tick elapsed

theorem substituteExpires (h : s.telegramsOk) (expiry : Nat) (course : Course) :
    (s.substituteExpires expiry course).telegramsOk := by
  have hrun : ((s.withClock (max s.clock expiry)).computeCycle (.substitute expiry) course.during 0).telegramsOk :=
    State.telegramsOk.computeCycle h.keep _ _ _
  unfold State.substituteExpires
  exact (hrun.handDown (by decide) (State.substituteDemand_good _) _).runAccepted course 7

/-! ### Commands -/

theorem request (h : s.telegramsOk) (kind : Byte) (area : RequestArea) : (s.request kind area).telegramsOk := by
  unfold State.request
  split
  · exact h.keep
  · exact h

/-- An event taken as a command, at its moment and while the unit takes it. -/
theorem eventComes (h : s.telegramsOk) (elapsed : Nat) (e : Event) :
    (if s.alive then (s.tick elapsed).happens e else s.tick elapsed).telegramsOk := by
  split
  · exact (h.tick elapsed).happens e
  · exact h.tick elapsed

/-- Every command is a reset, an event, the hand-over of a request or a computation. -/
theorem exec (h : s.telegramsOk) (c : Instr) : ∃ t, Machine.exec c s = .next t ∧ t.telegramsOk := by
  cases c with
  | powerOn =>
    refine ⟨_, rfl, ?_⟩
    split
    · exact resetBlocks _
    · exact (resetBlocks _).endReset
  | resetInputAssert | powerFailure => exact ⟨_, rfl, resetBlocks _⟩
  | resetInputRelease =>
    refine ⟨_, rfl, ?_⟩
    split
    · split
      · exact State.telegramsOk.endReset (s := s.withResetHeld false) h
      · exact h
    · exact h
  | estopAssert => exact ⟨_, rfl, h.happens .estopAssert⟩
  | estopRelease => exact ⟨_, rfl, h.happens .estopRelease⟩
  | setupChange active => exact ⟨_, rfl, h.happens (.setupChange active)⟩
  | deadlineExpiry => exact ⟨_, rfl, h.happens .deadlineExpiry⟩
  | commitCheckEnd => exact ⟨_, rfl, h.happens .commitCheckEnd⟩
  | calibrationWriteEnd => exact ⟨_, rfl, h.happens .calibrationWriteEnd⟩
  | feedbackReception elapsed bytes => exact ⟨_, rfl, h.eventComes elapsed (.feedbackReception bytes)⟩
  | feedbackSent elapsed => exact ⟨_, rfl, h.eventComes elapsed .feedbackSent⟩
  | demandReception elapsed course bytes => exact ⟨_, rfl, h.demandComes elapsed course bytes⟩
  | demandSent elapsed course =>
    refine ⟨_, rfl, ?_⟩
    split
    · exact ((h.tick elapsed).happens .demandSent).runAccepted course 0
    · exact h.tick elapsed
  | substituteExpiry course =>
    refine ⟨_, rfl, ?_⟩
    split
    · split
      · exact h.substituteExpires _ course
      · exact h
    · exact h
  | engage g carrier | release g carrier | clear g carrier => exact ⟨_, rfl, h.demandComes _ _ _⟩
  | clearPart carrier | capture carrier | rearm carrier | clearRestart carrier => exact ⟨_, rfl, h.demandComes _ _ _⟩
  | read area | openTransfer area | transferData area | closeTransfer area | commit area | liveWrite area
  | setLiveWindow area | groupControl area | storeCalibration area | restart area | describe area =>
    exact ⟨_, rfl, h.request _ area⟩
  | unknownKind kind area => exact ⟨_, rfl, h.request kind area⟩

end State.telegramsOk

/-- Settles O13: a telegram that comes to a port's output is one the unit sealed or one it poisoned, and a Demand accepted
for a computation has passed its check. -/
theorem stepKeepsTelegramChecks : Obligations.StepKeepsTelegramChecks := by
  intro s t h hstep
  cases hpending : s.pending with
  | nil =>
    rw [step_of_idle hpending] at hstep
    cases hstep
    exact h
  | cons c rest =>
    obtain ⟨u, hexec, hu⟩ := State.telegramsOk.exec (s := { s with pending := rest }) h c
    rw [step_of_waiting hpending, hexec] at hstep
    cases hstep
    exact hu

end Sys2Proof.Machine
end

section
/-! Telegrams found bad, telegrams that wait, and Demands that are dropped (R120, R126, R130, R131, R133, R139, R140). -/

namespace Sys2Proof.Machine

/-! ### The occurrence of a bad telegram (R90, R94, R97) -/

/-- What an occurrence of the kind of a bad telegram makes of the Reaction unit, the group states and the History buffer,
those of `s`. -/
def State.reportsBad (s : State) (k : FaultKind) (r : Reaction) (c : Quad GroupCoupling) (h : History) : Prop :=
  recordsOccurrence s.reaction.faults r.faults k 0 s.timer.cycleCount ∧
  r.restart = s.reaction.restart ∧ r.estopCause = s.reaction.estopCause ∧ r.exclusions = s.reaction.exclusions ∧
  (∀ g, (r.levels.get g).code = max (s.reaction.levels.get g).code (s.configuredLevel k).code) ∧
  (∀ g, afterLevelChange (s.coupling.get g) (c.get g) (s.reaction.levels.get g) (r.levels.get g)) ∧ afterOffer s k h

/-- An occurrence of a part-wide kind changes these and nothing else, and leaves the exclusions. -/
theorem State.occurrence_reportsBad (s : State) {k : FaultKind} (hpart : k.scopeKind = .part) :
    ∃ r c h, s.occurrence k 0 = ((s.withReaction r).withCoupling c).withHistory h ∧ s.reportsBad k r c h := by
  obtain ⟨r, c, h, heq, hrestart, hestop, hfaults, hlevels, -, hcoupling, hexclusions, hoffer⟩ :=
    occurrenceRecordedAndEscalated s k 0
  refine ⟨r, c, h, heq, hfaults, hrestart, hestop, Quad.ext_get fun i => ?_, fun g => hlevels g (.inl hpart), hcoupling,
    hoffer⟩
  rw [hexclusions, if_neg (by simp [hpart])]

/-! ### A bad Demand (R120, R126, R131) -/

/-- The Drive port with a poisoned forward handed to it: sent at once, or the last of those ready (R121). -/
def DrivePort.withPoisoned (d : DrivePort) (bytes : List Byte) : DrivePort :=
  match d.sending with
  | none => { d with sending := some ⟨.poisoned, bytes⟩ }
  | some _ => { d with ready := d.ready ++ [⟨.poisoned, bytes⟩] }

theorem DrivePort.withPoisoned_of_silent {d : DrivePort} (h : d.sending = none) (bytes : List Byte) :
    d.withPoisoned bytes = { d with sending := some ⟨.poisoned, bytes⟩ } := by
  simp [DrivePort.withPoisoned, h]

theorem DrivePort.withPoisoned_of_sending {d : DrivePort} (h : d.sending ≠ none) (bytes : List Byte) :
    d.withPoisoned bytes = { d with ready := d.ready ++ [⟨.poisoned, bytes⟩] } := by
  obtain ⟨o, ho⟩ := Option.ne_none_iff_exists'.mp h
  simp [DrivePort.withPoisoned, ho]

theorem State.driveReady_poisoned (s : State) (bytes : List Byte) (moment : Nat) :
    s.driveReady ⟨.poisoned, bytes⟩ moment = s.withDrivePort (s.drivePort.withPoisoned bytes) := by
  cases h : s.drivePort.sending with
  | none => simp [State.driveReady, State.transmit, h, DrivePort.withPoisoned_of_silent h]
  | some o =>
    have hsending : s.drivePort.sending ≠ none := by simp [h]
    rw [State.driveReady, h, DrivePort.withPoisoned_of_sending hsending]

/-- The state in which a bad Demand is reported: counted at the Cell port (R126, R131). -/
def State.demandCounted (s : State) : State :=
  s.withCellPort { s.cellPort with demandErrors := satInc 65535 s.cellPort.demandErrors }

theorem State.badDemand_eq (s : State) (bytes : List Byte) :
    s.badDemand bytes = (s.demandCounted.occurrence .demandCheck 0).withDrivePort
      (if bytes.length < 3 then s.drivePort else s.drivePort.withPoisoned (poison bytes)) := by
  have hport : (s.demandCounted.occurrence .demandCheck 0).drivePort = s.drivePort := by simp [State.demandCounted]
  unfold State.badDemand
  dsimp only
  split
  · rw [← hport]
    rfl
  · rw [State.driveReady_poisoned, ← hport]
    rfl

theorem State.accepted_none_of_not_passing {s : State} (h : s.demandInPassage = false) : s.cellPort.accepted = none := by
  simp only [State.demandInPassage, Bool.or_eq_false_iff] at h
  exact Option.isNone_iff_eq_none.mp (Option.isSome_eq_false_iff.mp h.1)

/-- A Demand that arrives with none in passage begins its own (R120). -/
theorem exec_demandReception_of_free {s : State} (halive : s.alive = true) (hfree : s.demandInPassage = false) (elapsed : Nat)
    (course : Course) (bytes : List Byte) :
    exec (.demandReception elapsed course bytes) s =
      .next (((s.tick elapsed).demandPassage bytes (s.clock + elapsed)).runAccepted course 0) := by
  have hpass : ¬ (s.tick elapsed).demandInPassage = true := Bool.eq_false_iff.mp hfree
  rw [exec_demandReception_of_alive halive, State.receiveDemand, if_neg hpass]
  rfl

/-- Settles O24: the count, the occurrence of DEMAND_CHECK, and the poisoned forward handed to the Drive port. -/
theorem badDemandPoisonedAndCounted : Obligations.BadDemandPoisonedAndCounted := by
  intro s elapsed course bytes halive hfree hbad
  obtain ⟨r, c, h, hoccurs, hfaults, hrestart, hestop, hexclusions, hlevels, hcoupling, hoffer⟩ :=
    (s.tick elapsed).demandCounted.occurrence_reportsBad (k := .demandCheck) rfl
  refine ⟨r, c, h, if bytes.length < 3 then s.drivePort else s.drivePort.withPoisoned (poison bytes), ?_, hfaults, hrestart,
    hestop, hexclusions, hlevels, hcoupling, hoffer, fun hshort => if_pos hshort, fun hlong => ?_⟩
  · have hnone : ((s.tick elapsed).badDemand bytes).cellPort.accepted = none := by
      rw [State.badDemand_eq, hoccurs]
      exact State.accepted_none_of_not_passing (s := s) hfree
    rw [exec_demandReception_of_free halive hfree, State.demandPassage, if_neg (by simp [hbad]),
      State.runAccepted_of_none hnone, State.badDemand_eq, hoccurs, ← satInc_eq_min]
    rfl
  · refine ⟨poison bytes, poison_poisonedCopy hlong, fun hsilent => ?_, fun hsending => ?_⟩
    · rw [if_neg (by omega), DrivePort.withPoisoned_of_silent hsilent]
    · rw [if_neg (by omega), DrivePort.withPoisoned_of_sending hsending]

/-! ### A bad Feedback (R120, R130, R131) -/

/-- The state in which a bad Feedback is reported: counted at the Drive port (R130, R131). -/
def State.feedbackCounted (s : State) : State :=
  s.withDrivePort { s.drivePort with feedbackErrors := satInc 65535 s.drivePort.feedbackErrors }

theorem State.badFeedback_eq (s : State) (bytes : List Byte) :
    s.badFeedback bytes = (s.feedbackCounted.occurrence .feedbackCheck 0).withCellPort
      (if bytes.length < 3 then s.cellPort else { s.cellPort with sending := some ⟨poison bytes, false⟩ }) := by
  have hport : (s.feedbackCounted.occurrence .feedbackCheck 0).cellPort = s.cellPort := by simp [State.feedbackCounted]
  unfold State.badFeedback
  dsimp only
  split <;> rw [← hport] <;> rfl

/-- A Feedback that arrives with none in passage begins its own (R120). -/
theorem exec_feedbackReception_of_free {s : State} (halive : s.alive = true) (hfree : s.cellPort.sending = none)
    (elapsed : Nat) (bytes : List Byte) :
    exec (.feedbackReception elapsed bytes) s = .next ((s.tick elapsed).feedbackPassage bytes) := by
  have hsilent : (s.tick elapsed).cellPort.sending = none := hfree
  rw [exec_feedbackReception_of_alive halive, State.receiveFeedback, hsilent]

/-- Settles O31: the count, the occurrence of FEEDBACK_CHECK, and the poisoned forward sent up. -/
theorem badFeedbackPoisonedAndCounted : Obligations.BadFeedbackPoisonedAndCounted := by
  intro s elapsed bytes halive hfree hbad
  obtain ⟨r, c, h, hoccurs, hfaults, hrestart, hestop, hexclusions, hlevels, hcoupling, hoffer⟩ :=
    (s.tick elapsed).feedbackCounted.occurrence_reportsBad (k := .feedbackCheck) rfl
  refine ⟨r, c, h, if bytes.length < 3 then s.cellPort else { s.cellPort with sending := some ⟨poison bytes, false⟩ }, ?_,
    hfaults, hrestart, hestop, hexclusions, hlevels, hcoupling, hoffer, fun hshort => if_pos hshort,
    fun hlong => ⟨poison bytes, poison_poisonedCopy hlong, if_neg (by omega)⟩⟩
  rw [exec_feedbackReception_of_free halive hfree, State.feedbackPassage, if_neg (by simp [hbad]), State.badFeedback_eq,
    hoccurs, ← satInc_eq_min]
  rfl

/-! ### Waiting and dropping (R120, R139, R140) -/

/-- A Demand that is dropped ends the loss and is counted, and nothing else comes of it (R139, R140). -/
theorem State.demandPassage_of_dropped {s : State} {bytes : List Byte} {moment : Nat} (hgood : goodDemand bytes = true)
    (hlost : s.timer.link = .lost) (hsoon : s.tooSoon moment) :
    s.demandPassage bytes moment = (s.validDemand moment).countDrop := by
  rw [State.demandPassage, if_pos hgood]
  exact if_pos ((s.dropsDemand_iff moment).mpr ⟨hlost, hsoon⟩)

theorem State.demandPassage_of_kept {s : State} {bytes : List Byte} {moment : Nat} (hgood : goodDemand bytes = true)
    (hkept : s.timer.link = .lost → ¬ s.tooSoon moment) :
    s.demandPassage bytes moment = ((s.validDemand moment).takeRequest bytes).accept bytes := by
  rw [State.demandPassage, if_pos hgood]
  exact if_neg fun hdrop => ((s.dropsDemand_iff moment).mp hdrop).elim hkept

/-- What a dropped Demand leaves: the link UP with a fresh deadline, the LINK_LOST cause ended, the drop counted. -/
theorem State.validDemand_countDrop {s : State} (hlost : s.timer.link = .lost) (moment : Nat) :
    (s.validDemand moment).countDrop =
      (s.withTimer { s.timer with
        link := .up, nextExpiry := none, deadline := some (moment + s.active.linkTimeout * s.active.period)
        resyncDrops := min 65535 (s.timer.resyncDrops + 1) }).withReaction
      { s.reaction with faults := causeEnded s.reaction.faults .linkLost 0 } := by
  rw [State.countDrop, State.validDemand_timer, satInc_eq_min, ← endCause_eq, State.validDemand, if_pos hlost]
  rfl

/-- Settles O25: what is in passage decides whether a telegram waits, and the drop rule what comes of a Demand that does
not. -/
theorem telegramsWaitOrAreDropped : Obligations.TelegramsWaitOrAreDropped := by
  refine ⟨fun s elapsed course bytes halive ⟨_, haccepted⟩ hpass => ?_, fun s elapsed bytes halive hsending => ?_,
    fun s elapsed course bytes halive hfree hgood hlost hsoon => ?_, fun s bytes hcomputing hfree hgood => ?_⟩
  · have hpass' : (s.tick elapsed).demandInPassage = true := hpass
    rw [exec_demandReception_of_alive halive, State.receiveDemand, if_pos hpass']
    exact congrArg Host.Outcome.next (State.runAccepted_of_none
      (s := (s.tick elapsed).withCellPort { s.cellPort with waiting := some ⟨bytes, s.clock + elapsed⟩ }) haccepted course 0)
  · obtain ⟨f, hf⟩ := Option.ne_none_iff_exists'.mp hsending
    have hf' : (s.tick elapsed).cellPort.sending = some f := hf
    rw [exec_feedbackReception_of_alive halive, State.receiveFeedback, hf']
    rfl
  · have hnone : ((s.tick elapsed).validDemand (s.clock + elapsed)).countDrop.cellPort.accepted = none := by
      simpa [State.tick] using State.accepted_none_of_not_passing hfree
    rw [exec_demandReception_of_free halive hfree,
      State.demandPassage_of_dropped (s := s.tick elapsed) hgood hlost hsoon, State.runAccepted_of_none hnone,
      State.validDemand_countDrop (s := s.tick elapsed) hlost]
    rfl
  · have hreceive : s.happens (.demandReception bytes) = s.demandPassage bytes s.clock := if_neg (by simp [hfree])
    rw [hreceive]
    exact ⟨fun hlost => State.demandPassage_of_dropped hgood hlost (.inl hcomputing),
      fun hup => State.demandPassage_of_kept hgood fun hlost => absurd hlost hup⟩

/-! ### The end of a Feedback's passage (R120, R129, R161) -/

theorem State.beginWaitingFeedback_of_none {s : State} (h : s.drivePort.waiting = none) : s.beginWaitingFeedback = s := by
  rw [State.beginWaitingFeedback, h]

theorem State.beginWaitingFeedback_of_waiting {s : State} {w : List Byte} (h : s.drivePort.waiting = some w) :
    s.beginWaitingFeedback = (s.withDrivePort { s.drivePort with waiting := none }).feedbackPassage w := by
  rw [State.beginWaitingFeedback, h]

/-- The last entry leaves an empty queue (R161). -/
theorem State.advanceQueue_of_last {s : State} {q : Request} (h : s.service.queue = [q]) :
    s.advanceQueue = s.withService { s.service with queue := [], progress := none, ready := none } := by
  simp only [State.advanceQueue, State.performHead, h, List.drop_one, List.tail_cons, State.withService_service]
  rfl

/-- The next entry becomes the head and is performed (R161). -/
theorem State.advanceQueue_of_next {s : State} {q q' : Request} {rest : List Request} (h : s.service.queue = q :: q' :: rest) :
    s.advanceQueue =
      (s.withService { s.service with queue := q' :: rest, progress := some .waiting, ready := none }).performKind q' := by
  simp only [State.advanceQueue, State.performHead, h, List.drop_one, List.tail_cons, State.withService_service]
  rfl

/-- Settles O32: what the sent telegram carried decides whether the queue advances, and then a waiting Feedback begins. -/
theorem feedbackSentAdvancesQueue : Obligations.FeedbackSentAdvancesQueue := by
  intro s elapsed halive
  refine ⟨fun hsilent => ?_, fun f hf => ?_⟩
  · have hsilent' : (s.tick elapsed).cellPort.sending = none := hsilent
    rw [exec_feedbackSent_of_alive halive, State.finishFeedback, hsilent']
    rfl
  intro s1 goesOn
  have hgoes : ∀ u : State, u.drivePort = s.drivePort →
      exec (.feedbackSent elapsed) s = .next u.beginWaitingFeedback → goesOn u := fun u hport hexec => by
    refine ⟨fun hnone => ?_, fun w hw => ?_⟩
    · rw [hexec, State.beginWaitingFeedback_of_none (hport ▸ hnone)]
    · rw [hexec, State.beginWaitingFeedback_of_waiting (hport ▸ hw), hport]
  have hf' : (s.tick elapsed).cellPort.sending = some f := hf
  have hexec := exec_feedbackSent_of_alive halive elapsed
  rw [State.finishFeedback, hf'] at hexec
  dsimp only at hexec
  refine ⟨fun hplain => hgoes s1 rfl ?_, fun hcarries hdue => ?_⟩
  · rw [hexec, if_neg (by simp [hplain])]
    rfl
  have hdue' : ¬ (s.tick elapsed).restartDue = true := Bool.eq_false_iff.mp hdue
  rw [if_pos hcarries, if_neg hdue'] at hexec
  refine ⟨fun q hq => hgoes _ rfl (hexec.trans (congrArg (Host.Outcome.next ∘ State.beginWaitingFeedback) ?_)),
    fun q q' rest hq => hgoes _ ?_ (hexec.trans (congrArg (Host.Outcome.next ∘ State.beginWaitingFeedback) ?_))⟩
  · exact State.advanceQueue_of_last (s := s1) hq
  · simp [s1]
  · exact State.advanceQueue_of_next (s := s1) hq

end Sys2Proof.Machine
end

section
/-! What a computation without events leaves of the ports, the link and the Service queue (R133, R160, R161). -/

namespace Sys2Proof.Machine

/-! ### The requests taken and refused (R160) -/

/-- The queue of requests taken, and the Overrun flag, the tag and the count of those refused (R160). -/
def Service.entries (v : Service) : List Request × Bool × Byte × Nat :=
  (v.queue, v.overrun, v.lastRefusedTag, v.overruns)

theorem Service.entries_eq_iff {v : Service} {queue : List Request} {overrun : Bool} {tag : Byte} {overruns : Nat} :
    v.entries = (queue, overrun, tag, overruns) ↔
      v.queue = queue ∧ v.overrun = overrun ∧ v.lastRefusedTag = tag ∧ v.overruns = overruns := by
  simp [Service.entries]

@[simp] theorem State.answer_entries (s : State) (p : Response) : (s.answer p).service.entries = s.service.entries := by
  simp [State.answer, Service.entries]

@[simp] theorem State.answerHead_entries (s : State) (f : Request → Response) :
    (s.answerHead f).service.entries = s.service.entries := by
  unfold State.answerHead
  split <;> simp

@[simp] theorem State.performKind_entries (s : State) (q : Request) :
    (s.performKind q).service.entries = s.service.entries := by
  rcases s.performKind_cases q with ⟨images, p, -, h⟩ | h | ⟨-, -, h⟩ | ⟨-, w, n, h⟩ <;> rw [h] <;> simp

@[simp] theorem State.endCheck_entries (s : State) : s.endCheck.service.entries = s.service.entries := by
  unfold State.endCheck
  dsimp only
  split
  · simp
  · split <;> simp

@[simp] theorem State.countCheck_entries (s : State) : s.countCheck.service.entries = s.service.entries := by
  unfold State.countCheck
  split
  · dsimp only
    split <;> simp
  · rfl

@[simp] theorem State.commitCopy_entries (s : State) : s.commitCopy.service.entries = s.service.entries := by
  unfold State.commitCopy
  split <;> simp

@[simp] theorem State.groupFunctionPoint_entries (s : State) :
    s.groupFunctionPoint.service.entries = s.service.entries := by
  unfold State.groupFunctionPoint
  split
  · split <;> simp
  · rfl

/-- A computation answers a request and takes or refuses none (R155, R161, R167). -/
@[simp] theorem State.computeCycle_nil_entries (s : State) (start : CycleStart) :
    (s.computeCycle start [] 0).service.entries = s.service.entries := by
  rw [(s.computeCycle_nil_frame start).2]
  simp [State.startCycle]

/-- With four requests held a further one is an overrun (R160). -/
theorem State.handOver_of_full {s : State} (h : 4 ≤ s.service.queue.length) (q : Request) :
    s.handOver q = s.withService { s.service with
      overrun := true, lastRefusedTag := q.area.tag, overruns := min 65535 (s.service.overruns + 1) } := by
  have hfull : ¬ s.service.queue.length < Config.queueCapacity := Nat.not_lt.mpr h
  rw [State.handOver, if_neg hfull, State.overrunRequest, satInc_eq_min]

/-- Behind other requests a further one is the newest entry, and nothing more comes of it yet (R160). -/
theorem State.handOver_of_behind {s : State} (hne : s.service.queue ≠ []) (h : s.service.queue.length < 4) (q : Request) :
    s.handOver q = s.withService { s.service with queue := s.service.queue ++ [q], overrun := false } := by
  have hroom : s.service.queue.length < Config.queueCapacity := h
  rw [State.handOver, if_pos hroom, if_neg hne]
  rfl

/-- A request taken is the newest entry, also where it is performed at once (R160). -/
theorem State.handOver_taken {s : State} (h : s.service.queue.length < 4) (q : Request) :
    (s.handOver q).service.entries =
      (s.service.queue ++ [q], false, s.service.lastRefusedTag, s.service.overruns) := by
  rcases s.handOver_cases q with ⟨-, hempty, hover⟩ | ⟨-, hne, -⟩ | ⟨hfull, -⟩
  · rw [hover, State.performKind_entries, State.withService_service, hempty]
    rfl
  · rw [State.handOver_of_behind hne h]
    rfl
  · exact absurd h (Nat.not_lt.mpr hfull)

theorem State.handOver_refused {s : State} (h : 4 ≤ s.service.queue.length) (q : Request) :
    (s.handOver q).service.entries =
      (s.service.queue, true, q.area.tag, min 65535 (s.service.overruns + 1)) := by
  rw [State.handOver_of_full h]
  rfl

/-! ### What no stage changes -/

theorem State.startCycle_timer (s : State) (start : CycleStart) : (s.startCycle start).timer = (s.startWork start).timer := by
  simp [State.startCycle]

/-- A computation leaves the input lines, the clock, both ports and the store, and the timer as its start left it. -/
@[simp] theorem State.computeCycle_nil_link (s : State) (start : CycleStart) :
    (s.computeCycle start [] 0).estopInput = s.estopInput ∧
    (s.computeCycle start [] 0).setupInput = s.setupInput ∧
    (s.computeCycle start [] 0).clock = s.clock ∧
    (s.computeCycle start [] 0).cellPort = s.cellPort ∧
    (s.computeCycle start [] 0).drivePort = s.drivePort ∧
    (s.computeCycle start [] 0).calibration = s.calibration ∧
    (s.computeCycle start [] 0).timer = (s.startWork start).timer := by
  rw [State.computeCycle_nil]
  simp [cycleStages, State.startCycle_timer]

/-- Speed settling closes the sample window (R4). -/
@[simp] theorem State.computeCycle_nil_window (s : State) (start : CycleStart) :
    (s.computeCycle start [] 0).window = none := by
  rw [State.computeCycle_nil]
  simp [cycleStages, State.speedSettling]

@[simp] theorem State.groupFunctionPoint_estopCause (s : State) :
    s.groupFunctionPoint.reaction.estopCause = s.reaction.estopCause := by
  unfold State.groupFunctionPoint
  split
  · split <;> simp [State.performSet_reaction]
  · rfl

/-- A computation leaves the record of the ESTOP input (R104). -/
@[simp] theorem State.computeCycle_nil_estopCause (s : State) (start : CycleStart) :
    (s.computeCycle start [] 0).reaction.estopCause = s.reaction.estopCause := by
  rw [State.computeCycle_nil]
  simp [cycleStages, State.speedSettling, State.referenceStage, State.compositionStage, State.monitoringStage,
    State.startCycle, State.startWork_reaction]

end Sys2Proof.Machine
end

section
/-! Requests handed over, by themselves and in a Demand (R117, R122, R123, R160, R167). -/

namespace Sys2Proof.Machine

/-! ### Commands that hand a request over -/

/-- The command of a request hands it over, whatever its kind (R160, R162). -/
theorem exec_requestCommand (kind : Byte) (area : RequestArea) (s : State) :
    exec (requestCommand kind area) s = .next (s.request kind area) := by
  have hkind : kind = BitVec.ofNat 8 kind.toNat := by simp
  unfold requestCommand
  generalize kind.toNat = n at hkind ⊢
  subst hkind
  split <;> rfl

theorem State.request_of_alive {s : State} (h : s.alive = true) (kind : Byte) (area : RequestArea) :
    s.request kind area = s.handOver ⟨kind, area⟩ := if_pos h

/-- The command of a group function is the reception of the Demand that brings it (R167). -/
theorem exec_functionCommand_eq (f : GroupFunction) (c : Carrier) (s : State) :
    exec (functionCommand f c) s = .next (s.demandComes c.elapsed c.course (functionDemand f c)) := by
  cases f <;> rfl

/-! ### The Demand of a group function (R117) -/

theorem sequenceOf_functionDemand (f : GroupFunction) (c : Carrier) : sequenceOf (functionDemand f c) = c.sequence :=
  halfAt_of_bytes rfl rfl

theorem functionDemand_slots (f : GroupFunction) {c : Carrier} (h : c.slots.length = 12) :
    ((functionDemand f c).drop 4).take 12 = c.slots := by
  rw [functionDemand, sealed, List.append_assoc _ (partArea _)]
  exact take_drop_of_append (pre := [1, 0] ++ bytesOfHalf c.sequence) rfl h

/-! ### A request in a Demand (R123) -/

/-- The state in which a Demand's computation begins: the Cycle timer told, the request handed over, the Demand awaited
(R123, steps 1 to 3). -/
def State.readyFor (s : State) (moment : Nat) (bytes : List Byte) : State :=
  (((s.withClock moment).validDemand moment).takeRequest bytes).accept bytes

theorem exec_demandReception_of_processes {s : State} {elapsed : Nat} {bytes : List Byte}
    (h : s.processes (s.clock + elapsed)) (hg : goodDemand bytes = true) (course : Course) :
    exec (.demandReception elapsed course bytes) s =
      .next ((s.readyFor (s.clock + elapsed) bytes).processDemand bytes course 0) :=
  congrArg Host.Outcome.next (State.demandComes_of_processes h hg course)

@[simp] theorem State.handDown_service (s : State) (origin : DemandOrigin) (bytes : List Byte) (latency : Nat) :
    (s.handDown origin bytes latency).service = s.service := by
  unfold State.handDown
  split <;> simp

/-- A Demand's computation without events leaves the entries as the hand-over of its request left them. -/
theorem State.processDemand_entries (s : State) (bytes : List Byte) (latency : Nat) :
    (s.processDemand bytes ⟨latency, []⟩ 0).service.entries = s.service.entries := by
  simp [State.processDemand, State.sendEdited]

theorem State.readyFor_entries (s : State) {bytes : List Byte} (hpart : destinationOf bytes = 1) (moment : Nat) :
    (s.service.queue.length < 4 → (s.readyFor moment bytes).service.entries =
      (s.service.queue ++ [requestOf bytes], false, s.service.lastRefusedTag, s.service.overruns)) ∧
    (4 ≤ s.service.queue.length → (s.readyFor moment bytes).service.entries =
      (s.service.queue, true, (requestOf bytes).area.tag, min 65535 (s.service.overruns + 1))) := by
  have hservice : ((s.withClock moment).validDemand moment).service = s.service := by simp
  have hready : (s.readyFor moment bytes).service =
      (((s.withClock moment).validDemand moment).handOver (requestOf bytes)).service := by
    simp [State.readyFor, State.takeRequest, hpart]
  rw [hready, ← hservice]
  exact ⟨fun hroom => State.handOver_taken hroom _, fun hfull => State.handOver_refused hfull _⟩

/-- Settles O55: a request by itself, a request that a Demand brings, and the Demand of a group function. -/
theorem requestsQueueOrOverrun : Obligations.RequestsQueueOrOverrun := by
  refine ⟨fun kind area s halive => ?_, fun s elapsed latency bytes hprocesses hgood hpart => ?_,
    fun f c s => exec_functionCommand_eq f c s, fun f c hslots => ?_, fun kind area f c s hheld => ?_⟩
  · rw [exec_requestCommand, State.request_of_alive halive]
    exact ⟨fun hne hroom => congrArg _ (State.handOver_of_behind hne hroom _),
      fun hfull => congrArg _ (State.handOver_of_full hfull _)⟩
  · refine ⟨_, exec_demandReception_of_processes hprocesses hgood ⟨latency, []⟩, ?_⟩
    have hentries := State.processDemand_entries (s.readyFor (s.clock + elapsed) bytes) bytes latency
    obtain ⟨hroom, hfull⟩ := s.readyFor_entries hpart (s.clock + elapsed)
    exact ⟨fun h => Service.entries_eq_iff.mp (hentries.trans (hroom h)),
      fun h => Service.entries_eq_iff.mp (hentries.trans (hfull h))⟩
  · obtain ⟨hgood, hpart, hrequest⟩ := functionDemand_good f hslots
    exact ⟨hgood, sequenceOf_functionDemand f c, functionDemand_slots f hslots, hpart, hrequest⟩
  · rw [exec_requestCommand, exec_functionCommand_eq, State.request_of_held hheld, State.demandComes_of_held hheld]
    exact ⟨rfl, rfl⟩

end Sys2Proof.Machine
end

section
/-! The computation of a good Demand (R121, R123, R133 to R135, R139). -/

namespace Sys2Proof.Machine

/-! ### A telegram that the port's records follow (R4, R121) -/

/-- With the Drive port silent it is sent at once: the records are its own and the window opens on its sequence. -/
theorem State.driveReady_of_silent {s : State} {o : Outgoing} (hsilent : s.drivePort.sending = none)
    (horigin : o.origin ≠ .poisoned) (moment : Nat) :
    s.driveReady o moment =
      ((s.withDrivePort { s.drivePort with
        sending := some o, lastSeq := some (sequenceOf o.bytes), lastTx := some moment }).withWindow
        (some (sequenceOf o.bytes))).withAcq (Quad.ofFn fun r => { s.acq.get r with taken := false }) := by
  rw [State.driveReady, hsilent, State.transmit_eq, if_neg horigin]

/-- Behind a telegram being sent it is the last of those ready. -/
theorem State.driveReady_of_sending {s : State} {p : Outgoing} (hsending : s.drivePort.sending = some p) (o : Outgoing)
    (moment : Nat) :
    s.driveReady o moment = s.withDrivePort { s.drivePort with ready := s.drivePort.ready ++ [o] } := by
  rw [State.driveReady, hsending]

/-- What the handing down of a telegram that is no poisoned forward does to the Drive port and the window (R4, R121). -/
theorem State.driveReady_records (s : State) {o : Outgoing} (horigin : o.origin ≠ .poisoned) (moment : Nat) :
    let t := s.driveReady o moment
    (t.drivePort.waiting = s.drivePort.waiting ∧ t.drivePort.feedbackErrors = s.drivePort.feedbackErrors) ∧
    (s.drivePort.sending = none →
      t.drivePort.sending = some o ∧ t.drivePort.ready = s.drivePort.ready ∧
      t.drivePort.lastSeq = some (sequenceOf o.bytes) ∧ t.drivePort.lastTx = some moment ∧
      t.window = some (sequenceOf o.bytes) ∧ ∀ r, (t.acq.get r).taken = false) ∧
    ∀ p, s.drivePort.sending = some p →
      t.drivePort.sending = some p ∧ t.drivePort.ready = s.drivePort.ready ++ [o] ∧
      t.drivePort.lastSeq = s.drivePort.lastSeq ∧ t.drivePort.lastTx = s.drivePort.lastTx ∧ t.window = s.window := by
  intro t
  cases hsending : s.drivePort.sending with
  | none =>
    have ht : t = _ := State.driveReady_of_silent hsending horigin moment
    rw [ht]
    exact ⟨⟨rfl, rfl⟩, fun _ => ⟨rfl, rfl, rfl, rfl, rfl, fun r => by simp⟩, nofun⟩
  | some p =>
    have ht : t = _ := State.driveReady_of_sending hsending o moment
    rw [ht]
    exact ⟨⟨rfl, rfl⟩, nofun, fun _ hp => ⟨hsending.trans hp, rfl, rfl, rfl, rfl⟩⟩

/-! ### The end of a computation (R123, R133) -/

theorem State.handDown_of_abandoned {s : State} (h : s.timer.computing = none) (origin : DemandOrigin) (bytes : List Byte)
    (latency : Nat) : s.handDown origin bytes latency = s := if_neg (by simp [h])

/-- A computation has ended and its telegram is handed to the Drive port (R133). -/
def State.endsWith (s : State) (o : Outgoing) (latency : Nat) : State :=
  (s.withTimer { s.timer with computing := none }).driveReady o (s.clock + latency)

theorem State.handDown_of_running {s : State} (h : s.timer.computing ≠ none) (origin : DemandOrigin) (bytes : List Byte)
    (latency : Nat) : s.handDown origin bytes latency = s.endsWith ⟨origin, bytes⟩ latency :=
  if_pos (Option.isSome_iff_ne_none.mpr h)

theorem State.sendEdited_of_abandoned {s : State} (h : s.timer.computing = none) (bytes : List Byte) (latency : Nat) :
    s.sendEdited bytes latency = s.withCellPort { s.cellPort with accepted := none } :=
  State.handDown_of_abandoned (s := s.withCellPort { s.cellPort with accepted := none }) h _ _ _

theorem State.sendEdited_of_running {s : State} (h : s.timer.computing ≠ none) (bytes : List Byte) (latency : Nat) :
    s.sendEdited bytes latency =
      (s.withCellPort { s.cellPort with accepted := none }).endsWith ⟨.edited, s.editedDemand bytes⟩ latency :=
  State.handDown_of_running (s := s.withCellPort { s.cellPort with accepted := none }) h _ _ _

@[simp] theorem State.endsWith_frame (s : State) (o : Outgoing) (latency : Nat) :
    (s.endsWith o latency).clock = s.clock ∧
    (s.endsWith o latency).estopInput = s.estopInput ∧
    (s.endsWith o latency).setupInput = s.setupInput ∧
    (s.endsWith o latency).reaction = s.reaction ∧
    (s.endsWith o latency).cellPort = s.cellPort ∧
    (s.endsWith o latency).composer = s.composer ∧
    (s.endsWith o latency).images = s.images ∧
    (s.endsWith o latency).calibration = s.calibration ∧
    (s.endsWith o latency).service = s.service ∧
    (s.endsWith o latency).timer = { s.timer with computing := none } := by
  simp [State.endsWith]

/-- The records at a computation's end, the port being `d` and no window open (R4, R121). -/
theorem State.endsWith_records {s : State} {d : DrivePort} {moment : Nat} (hdrive : s.drivePort = d)
    (hwindow : s.window = none) (hclock : s.clock = moment) {o : Outgoing} (horigin : o.origin ≠ .poisoned)
    (latency : Nat) :
    let t := s.endsWith o latency
    (t.drivePort.waiting = d.waiting ∧ t.drivePort.feedbackErrors = d.feedbackErrors) ∧
    (d.sending = none →
      t.drivePort.sending = some o ∧ t.drivePort.ready = d.ready ∧ t.drivePort.lastSeq = some (sequenceOf o.bytes) ∧
      t.drivePort.lastTx = some (moment + latency) ∧ t.window = some (sequenceOf o.bytes) ∧
      ∀ r, (t.acq.get r).taken = false) ∧
    ∀ p, d.sending = some p →
      t.drivePort.sending = some p ∧ t.drivePort.ready = d.ready ++ [o] ∧ t.drivePort.lastSeq = d.lastSeq ∧
      t.drivePort.lastTx = d.lastTx ∧ t.window = none := by
  subst hdrive hclock
  rw [← hwindow]
  exact (s.withTimer { s.timer with computing := none }).driveReady_records horigin (s.clock + latency)

/-- What a telegram carries of the unit's state is the Active image's slot map and the composed torques (R124). -/
theorem State.editedDemand_congr {s t : State} (hactive : t.active = s.active) (hcomposer : t.composer = s.composer)
    (bytes : List Byte) : t.editedDemand bytes = s.editedDemand bytes := by
  have hslots : t.slotBytes = s.slotBytes := by
    funext slots p
    rw [State.slotBytes, State.slotBytes, hactive, hcomposer]
  rw [State.editedDemand, State.editedDemand, hslots]

theorem sequenceOf_congr {a b : List Byte} (h : a.take 4 = b.take 4) : sequenceOf a = sequenceOf b := by
  have hbyte (bytes : List Byte) {i : Nat} (hi : i < 4) : byteAt (bytes.take 4) i = byteAt bytes i := by
    simp [byteAt, List.getD, hi]
  have hhalf (bytes : List Byte) : halfAt (bytes.take 4) 2 = halfAt bytes 2 := by
    rw [halfAt, halfAt, hbyte _ (by omega), hbyte _ (by omega)]
  rw [sequenceOf, sequenceOf, ← hhalf a, ← hhalf b, h]

/-- Without events a computation comes to its end, where its telegram is handed to the Drive port (R133). -/
theorem State.computeCycle_nil_running (s : State) (start : CycleStart) :
    (s.computeCycle start [] 0).timer.computing ≠ none := by
  have htimer : (s.computeCycle start [] 0).timer = (s.startWork start).timer := by simp
  rw [htimer]
  exact Option.isSome_iff_ne_none.mp (s.startWork_computing start)

section
variable (s : State) (moment : Nat) (bytes : List Byte)

/-- A Demand's computation, from the taking of its request to the end of its last stage, with no event during it. -/
def State.demandComputed : State := (s.readyFor moment bytes).computeCycle (.cell (demandSlots bytes)) [] 0

theorem State.demandComputed_lines :
    (s.demandComputed moment bytes).clock = moment ∧
    (s.demandComputed moment bytes).estopInput = s.estopInput ∧
    (s.demandComputed moment bytes).setupInput = s.setupInput ∧
    (s.demandComputed moment bytes).reaction.estopCause = s.reaction.estopCause ∧
    (s.demandComputed moment bytes).calibration = s.calibration ∧
    (s.demandComputed moment bytes).window = none := by
  simp [State.demandComputed, State.readyFor, State.validDemand_reaction]

theorem State.demandComputed_ports :
    (s.demandComputed moment bytes).drivePort = s.drivePort ∧
    (s.demandComputed moment bytes).cellPort = { s.cellPort with accepted := some bytes } := by
  simp [State.demandComputed, State.readyFor, State.accept]

/-- The link is UP with a fresh deadline, the count is the next one, and the Demand's slots are held (R133 to R135). -/
theorem State.demandComputed_timer :
    (s.demandComputed moment bytes).timer = { s.timer with
      link := .up, nextExpiry := none, deadline := some (moment + s.active.linkTimeout * s.active.period)
      cycleCount := s.timer.cycleCount + 1, held := some (demandSlots bytes), computing := some .cell } := by
  simp [State.demandComputed, State.readyFor, State.validDemand_timer, State.startWork_timer_cell, State.active]

variable (latency : Nat)

/-- The same with the edited Demand handed to the Drive port (R123, steps 5 and 6). -/
def State.demandAnswered : State := (s.demandComputed moment bytes).sendEdited bytes latency

theorem State.demandAnswered_eq :
    s.demandAnswered moment bytes latency =
      ((s.demandComputed moment bytes).withCellPort { s.cellPort with accepted := none }).endsWith
        ⟨.edited, (s.demandComputed moment bytes).editedDemand bytes⟩ latency := by
  have hrunning : (s.demandComputed moment bytes).timer.computing ≠ none := State.computeCycle_nil_running _ _
  obtain ⟨-, hcell⟩ := s.demandComputed_ports moment bytes
  rw [State.demandAnswered, State.sendEdited_of_running hrunning, hcell]

theorem State.demandAnswered_lines :
    (s.demandAnswered moment bytes latency).clock = moment ∧
    (s.demandAnswered moment bytes latency).estopInput = s.estopInput ∧
    (s.demandAnswered moment bytes latency).setupInput = s.setupInput ∧
    (s.demandAnswered moment bytes latency).reaction.estopCause = s.reaction.estopCause ∧
    (s.demandAnswered moment bytes latency).calibration = s.calibration ∧
    (s.demandAnswered moment bytes latency).cellPort = { s.cellPort with accepted := none } := by
  simp [State.demandAnswered_eq, State.demandComputed_lines]

theorem State.demandAnswered_timer :
    (s.demandAnswered moment bytes latency).timer = { s.timer with
      link := .up, nextExpiry := none, deadline := some (moment + s.active.linkTimeout * s.active.period)
      cycleCount := s.timer.cycleCount + 1, held := some (demandSlots bytes), computing := none } := by
  simp [State.demandAnswered_eq, State.demandComputed_timer]

/-- The edited Demand can be read off the state the computation leaves. -/
theorem State.demandAnswered_editedDemand :
    (s.demandAnswered moment bytes latency).editedDemand bytes = (s.demandComputed moment bytes).editedDemand bytes := by
  rw [State.demandAnswered_eq]
  exact State.editedDemand_congr (by simp [State.active]) (by simp) bytes

end

theorem State.demandAnswered_records {s : State} {bytes : List Byte} (hgood : goodDemand bytes = true) (moment latency : Nat) :
    let t := s.demandAnswered moment bytes latency
    let b := (s.demandComputed moment bytes).editedDemand bytes
    (t.drivePort.waiting = s.drivePort.waiting ∧ t.drivePort.feedbackErrors = s.drivePort.feedbackErrors) ∧
    (s.drivePort.sending = none →
      t.drivePort.sending = some ⟨.edited, b⟩ ∧ t.drivePort.ready = s.drivePort.ready ∧
      t.drivePort.lastSeq = some (sequenceOf bytes) ∧ t.drivePort.lastTx = some (moment + latency) ∧
      t.window = some (sequenceOf bytes) ∧ ∀ r, (t.acq.get r).taken = false) ∧
    ∀ p, s.drivePort.sending = some p →
      t.drivePort.sending = some p ∧ t.drivePort.ready = s.drivePort.ready ++ [⟨.edited, b⟩] ∧
      t.drivePort.lastSeq = s.drivePort.lastSeq ∧ t.drivePort.lastTx = s.drivePort.lastTx ∧ t.window = none := by
  have hseq := sequenceOf_congr ((s.demandComputed moment bytes).editedDemand_take hgood)
  obtain ⟨hclock, -, -, -, -, hwindow⟩ := s.demandComputed_lines moment bytes
  obtain ⟨hdrive, -⟩ := s.demandComputed_ports moment bytes
  rw [State.demandAnswered_eq, ← hseq]
  generalize s.demandComputed moment bytes = run at hclock hwindow hdrive
  exact State.endsWith_records (s := run.withCellPort { s.cellPort with accepted := none })
    (o := ⟨.edited, run.editedDemand bytes⟩) hdrive hwindow hclock nofun latency

/-- Settles O22: the computation's end decides whether the edited Demand is handed down, and without events each record is
read off the start's work and the transmission. -/
theorem goodDemandRunsOneComputation : Obligations.GoodDemandRunsOneComputation := by
  intro s elapsed course bytes hprocesses hgood told taken run free
  have hexec := exec_demandReception_of_processes hprocesses hgood course
  refine ⟨fun habandoned => hexec.trans (congrArg _ (State.sendEdited_of_abandoned habandoned _ _)),
    fun hrunning => hexec.trans (congrArg _ (State.sendEdited_of_running hrunning _ _)), fun hnone => ?_⟩
  clear run free
  obtain ⟨latency, during⟩ := course
  obtain rfl : during = [] := hnone
  obtain ⟨-, ⟨-, haccepted⟩, -⟩ := hprocesses
  refine ⟨s.demandAnswered (s.clock + elapsed) bytes latency, hexec, ?_⟩
  obtain ⟨hclock, hestop, hsetup, hcause, hcalibration, hcell⟩ :=
    s.demandAnswered_lines (s.clock + elapsed) bytes latency
  have htimer := s.demandAnswered_timer (s.clock + elapsed) bytes latency
  have hport : (s.demandAnswered (s.clock + elapsed) bytes latency).cellPort = s.cellPort := by
    rw [hcell, ← haccepted]
  obtain ⟨⟨hwaiting, herrors⟩, hsilent, hbehind⟩ :=
    State.demandAnswered_records (s := s) hgood (s.clock + elapsed) latency
  rw [State.demandAnswered_editedDemand, htimer, hport]
  exact ⟨hclock, rfl, rfl, rfl, rfl, rfl, rfl, ⟨by rw [htimer], by rw [hport, haccepted]⟩, rfl, hcalibration, hestop,
    hsetup, hcause, hwaiting, herrors, State.editedDemand_good hgood _, State.editedDemand_take hgood _, hsilent, hbehind⟩

end Sys2Proof.Machine
end

section
/-! The computation of a substitute expiry, and the Demand accepted during it (R133, R136, R137). -/

namespace Sys2Proof.Machine

/-! ### An abandoned computation (R122, R142) -/

/-- Where no computation runs no Demand waits for one: a reset that abandons a computation discards both (R122). -/
def State.abandonsBoth (s : State) : Prop := s.timer.computing = none → s.cellPort.accepted = none

theorem State.abandonsBoth_of_running {s : State} (h : s.timer.computing.isSome = true) : s.abandonsBoth := fun hnone => by
  rw [hnone] at h
  exact absurd h nofun

theorem State.restartReset_accepted (s : State) : s.restartReset.cellPort.accepted = none := by
  simp [State.restartReset, State.resetBlocks, State.reset, CellPort.reset]

theorem State.takeEvent_abandonsBoth {s : State} (h : s.abandonsBoth) (e : MidEvent) : (s.takeEvent e).abandonsBoth := by
  cases hrunning : s.timer.computing.isSome with
  | false => rwa [State.takeEvent, if_neg (by simp [hrunning])]
  | true =>
    rw [State.takeEvent_running hrunning]
    rcases (s.tick e.elapsed).happens_cases e.event with same | ⟨u, hreset⟩
    · exact State.abandonsBoth_of_running (same.computing ▸ hrunning)
    · exact fun _ => hreset ▸ u.restartReset_accepted

theorem cycleStages_abandonsBoth (old : Option Image) (sent : Bool) :
    ∀ f ∈ cycleStages old sent, ∀ u : State, u.abandonsBoth → (f u).abandonsBoth := by
  intro f hf u hu hnone
  rw [cycleStages_computing old sent f hf] at hnone
  simp only [cycleStages, List.mem_cons, List.not_mem_nil, or_false] at hf
  rcases hf with rfl | rfl | rfl | rfl | rfl | rfl <;> simpa using hu hnone

/-- After an abandoned computation no Demand waits (R122). -/
theorem State.computeCycle_abandonsBoth (s : State) (start : CycleStart) (during : List MidEvent) (point : Nat) :
    (s.computeCycle start during point).abandonsBoth :=
  State.runFrom_keeps (cycleStages_abandonsBoth _ _) (fun e _ _ h => State.takeEvent_abandonsBoth h e) point _
    (State.abandonsBoth_of_running (s.startCycle_computing start))

/-! ### A substitute expiry (R133, R136) -/

theorem exec_substituteExpiry_of_lost {s : State} {x : Nat} (halive : s.alive = true) (hlost : s.timer.link = .lost)
    (hexpiry : s.timer.nextExpiry = some x) (course : Course) :
    exec (.substituteExpiry course) s = .next (s.substituteExpires x course) := by
  change Host.Outcome.next _ = _
  rw [hlost, hexpiry]
  exact congrArg _ (if_pos halive)

theorem exec_substituteExpiry_of_none {s : State} (h : s.timer.nextExpiry = none) (course : Course) :
    exec (.substituteExpiry course) s = .next s := by
  change Host.Outcome.next _ = _
  rw [h]
  cases s.timer.link <;> rfl

theorem State.runAccepted_of_accepted {s : State} {bytes : List Byte} (haccepted : s.cellPort.accepted = some bytes)
    (hfree : s.timer.computing = none) (course : Course) (point : Nat) :
    s.runAccepted course point = s.processDemand bytes course point := by
  rw [State.runAccepted, haccepted, hfree]

section
variable (s : State) (x : Nat)

/-- A substitute expiry's computation up to the end of its last stage. -/
def State.substituteComputed (during : List MidEvent) : State :=
  (s.withClock (max s.clock x)).computeCycle (.substitute x) during 0

/-- The substitute Demand handed down at the computation's end (R137). -/
def State.substituteSent (latency : Nat) : State := s.endsWith ⟨.substitute, s.substituteDemand⟩ latency

theorem State.substituteExpires_of_abandoned {course : Course}
    (h : (s.substituteComputed x course.during).timer.computing = none) :
    s.substituteExpires x course = s.substituteComputed x course.during := by
  have hexpires : s.substituteExpires x course = ((s.substituteComputed x course.during).handDown .substitute
    (s.substituteComputed x course.during).substituteDemand course.latency).runAccepted course 7 := rfl
  rw [hexpires, State.handDown_of_abandoned h]
  exact State.runAccepted_of_none (State.computeCycle_abandonsBoth _ _ _ _ h) course 7

theorem State.substituteExpires_of_running {course : Course}
    (h : (s.substituteComputed x course.during).timer.computing ≠ none) :
    s.substituteExpires x course =
      ((s.substituteComputed x course.during).substituteSent course.latency).runAccepted course 7 := by
  rw [State.substituteSent, ← State.handDown_of_running h]
  rfl

end

theorem State.runAccepted_substituteSent_of_none {s : State} (h : s.cellPort.accepted = none) (latency : Nat)
    (course : Course) : (s.substituteSent latency).runAccepted course 7 = s.substituteSent latency :=
  State.runAccepted_of_none (by simpa [State.substituteSent] using h) course 7

/-- A Demand accepted meanwhile is computed after the substitute Demand has been handed down (R133). -/
theorem State.runAccepted_substituteSent_of_accepted {s : State} {bytes : List Byte} (h : s.cellPort.accepted = some bytes)
    (latency : Nat) (course : Course) :
    (s.substituteSent latency).runAccepted course 7 = (s.substituteSent latency).processDemand bytes course 7 :=
  State.runAccepted_of_accepted (by simpa [State.substituteSent] using h) (by simp [State.substituteSent]) course 7

/-- The slots of a substitute Demand carry the written torques, ENABLE, and flags 1 to 7 of the held slots (R137). -/
theorem State.substituteDemand_carries {s : State} (hvalid : s.active.valid = true) (r : Chan) :
    (demandSlot s.substituteDemand (slotPosition s.active r)).torque = BitVec.ofInt 16 (s.composer.get r).lastWritten ∧
    (demandSlot s.substituteDemand (slotPosition s.active r)).enable = (s.composer.get r).enable ∧
    ∀ held, s.timer.held = some held → ∀ i, 1 ≤ i → i ≤ 7 →
      (demandSlot s.substituteDemand (slotPosition s.active r)).flags.getLsbD i =
        (held.get (slotPosition s.active r)).flags.getLsbD i := by
  obtain ⟨htorque, henable, hflags⟩ := State.sentSlot_of_valid hvalid s.heldSlots r
  rw [State.demandSlot_substituteDemand]
  refine ⟨htorque, henable, fun held hheld i h1 h7 => ?_⟩
  rw [hflags i h1 h7, State.heldSlots, hheld]

/-! ### Without events -/

section
variable (s : State) (x : Nat)

theorem State.substituteComputed_nil :
    (s.substituteComputed x []).clock = max s.clock x ∧
    (s.substituteComputed x []).cellPort = s.cellPort ∧
    (s.substituteComputed x []).drivePort = s.drivePort ∧
    (s.substituteComputed x []).calibration = s.calibration ∧
    (s.substituteComputed x []).window = none := by
  simp [State.substituteComputed]

theorem State.substituteComputed_queue :
    (s.substituteComputed x []).service.queue = s.service.queue ∧
    (s.substituteComputed x []).service.overruns = s.service.overruns := by
  have hentries := State.computeCycle_nil_entries (s.withClock (max s.clock x)) (.substitute x)
  simp only [Service.entries, Prod.mk.injEq] at hentries
  obtain ⟨hqueue, -, -, hoverruns⟩ := hentries
  exact ⟨hqueue, hoverruns⟩

/-- The count is the next one, and the next expiry one nominal period after this one's moment (R133, R136). -/
theorem State.substituteComputed_timer :
    (s.substituteComputed x []).timer = { s.timer with
      cycleCount := s.timer.cycleCount + 1, computing := some .substitute
      nextExpiry := some (x + (s.substituteComputed x []).active.period) } := by
  have hactive : (s.substituteComputed x []).active =
      ((s.withClock (max s.clock x)).startWork (.substitute x)).images.active := by
    rw [State.substituteComputed, State.active, (State.computeCycle_nil_frame _ _).1, State.startCycle_images]
  rw [hactive]
  simp [State.substituteComputed, State.startWork_timer_substitute]

variable (latency : Nat)

/-- A substitute expiry without events, its telegram handed down (R136, R137). -/
def State.substituteAnswered : State := (s.substituteComputed x []).substituteSent latency

theorem State.substituteAnswered_lines :
    (s.substituteAnswered x latency).clock = max s.clock x ∧
    (s.substituteAnswered x latency).cellPort = s.cellPort ∧
    (s.substituteAnswered x latency).calibration = s.calibration ∧
    (s.substituteAnswered x latency).service.queue = s.service.queue ∧
    (s.substituteAnswered x latency).service.overruns = s.service.overruns := by
  simp [State.substituteAnswered, State.substituteSent, State.substituteComputed_nil, State.substituteComputed_queue]

theorem State.substituteAnswered_timer :
    (s.substituteAnswered x latency).timer = { s.timer with
      cycleCount := s.timer.cycleCount + 1, computing := none
      nextExpiry := some (x + (s.substituteAnswered x latency).active.period) } := by
  have hactive : (s.substituteAnswered x latency).active = (s.substituteComputed x []).active := by
    simp [State.substituteAnswered, State.substituteSent, State.active]
  have htimer : (s.substituteAnswered x latency).timer = { (s.substituteComputed x []).timer with computing := none } := by
    simp [State.substituteAnswered, State.substituteSent]
  rw [htimer, hactive, State.substituteComputed_timer]

theorem State.substituteAnswered_records :
    let t := s.substituteAnswered x latency
    let b := (s.substituteComputed x []).substituteDemand
    (s.drivePort.sending = none →
      t.drivePort.sending = some ⟨.substitute, b⟩ ∧ t.drivePort.ready = s.drivePort.ready ∧
      t.drivePort.lastSeq = some (sequenceOf b) ∧ t.drivePort.lastTx = some (max s.clock x + latency) ∧
      t.window = some (sequenceOf b)) ∧
    ∀ p, s.drivePort.sending = some p →
      t.drivePort.sending = some p ∧ t.drivePort.ready = s.drivePort.ready ++ [⟨.substitute, b⟩] ∧
      t.drivePort.lastSeq = s.drivePort.lastSeq ∧ t.drivePort.lastTx = s.drivePort.lastTx ∧ t.window = none := by
  intro t b
  obtain ⟨hclock, -, hdrive, -, hwindow⟩ := s.substituteComputed_nil x
  obtain ⟨-, hsilent, hbehind⟩ := State.endsWith_records (o := ⟨.substitute, b⟩) hdrive hwindow hclock nofun latency
  refine ⟨fun h => ?_, hbehind⟩
  obtain ⟨hsending, hready, hseq, htx, hopen, -⟩ := hsilent h
  exact ⟨hsending, hready, hseq, htx, hopen⟩

end

theorem exec_substituteExpiry_of_no_events {s : State} {x : Nat} (halive : s.alive = true) (hidle : s.idle)
    (hlost : s.timer.link = .lost) (hexpiry : s.timer.nextExpiry = some x) (latency : Nat) :
    exec (.substituteExpiry ⟨latency, []⟩) s = .next (s.substituteAnswered x latency) := by
  have hrunning : (s.substituteComputed x []).timer.computing ≠ none := State.computeCycle_nil_running _ _
  have hexpires := s.substituteExpires_of_running x (course := ⟨latency, []⟩) hrunning
  obtain ⟨-, hcell, -⟩ := s.substituteComputed_nil x
  obtain ⟨-, haccepted⟩ := hidle
  rw [exec_substituteExpiry_of_lost halive hlost hexpiry, hexpires,
    State.runAccepted_substituteSent_of_none (by rw [hcell, haccepted]), State.substituteAnswered]

/-- Settles O27: the computation's end and the Demand accepted meanwhile decide what follows the substitute Demand, whose
parts are those the unit builds. -/
theorem substituteExpirySendsDemand : Obligations.SubstituteExpirySendsDemand := by
  refine ⟨fun s x course halive hlost hexpiry => ?_, fun s x latency halive hidle hlost hexpiry => ?_,
    fun s course hnone => exec_substituteExpiry_of_none hnone course⟩
  · intro run sent
    have hexec := exec_substituteExpiry_of_lost halive hlost hexpiry course
    refine ⟨fun habandoned => hexec.trans (congrArg _ (s.substituteExpires_of_abandoned x habandoned)),
      fun hrunning hnone => ?_, fun bytes hrunning haccepted => ?_, run.substituteDemand_good, rfl,
      run.substituteDemand_area, run.sequenceOf_substituteDemand, State.substituteDemand_carries⟩
    · rw [hexec, s.substituteExpires_of_running x hrunning]
      exact congrArg _ (State.runAccepted_substituteSent_of_none hnone _ course)
    · rw [hexec, s.substituteExpires_of_running x hrunning]
      exact congrArg _ (State.runAccepted_substituteSent_of_accepted haccepted _ course)
  · refine ⟨s.substituteAnswered x latency, exec_substituteExpiry_of_no_events halive hidle hlost hexpiry latency, ?_⟩
    obtain ⟨hclock, hcell, hcalibration, hqueue, hoverruns⟩ := s.substituteAnswered_lines x latency
    obtain ⟨-, -, hdrive, -⟩ := s.substituteComputed_nil x
    have htimer := s.substituteAnswered_timer x latency
    have hsequence : sequenceOf (s.substituteComputed x []).substituteDemand = s.substituteSequence := by
      rw [State.sequenceOf_substituteDemand, State.substituteSequence, hdrive, State.substituteSequence]
    obtain ⟨-, haccepted⟩ := hidle
    rw [htimer]
    exact ⟨hclock, rfl, hlost, rfl, rfl, ⟨congrArg Timer.computing htimer, by rw [hcell, haccepted]⟩, rfl, rfl, hcell,
      hcalibration, hqueue, hoverruns, hsequence, s.substituteAnswered_records x latency⟩

end Sys2Proof.Machine
end

section
/-! The deadline's expiry in UP: the link is LOST and every group at SAFE (R132, R134, R135). -/

namespace Sys2Proof.Machine

/-- LINK_LOST's configured level is SAFE in a valid image (R90, R91). -/
theorem State.configuredLevel_linkLost {s : State} (h : s.active.valid = true) : s.configuredLevel .linkLost = .safe :=
  Level.eq_safe_of_le (s.le_configuredLevel h .linkLost)

theorem State.occurrence_linkLost_level {s : State} (h : s.active.valid = true) (g : Chan) :
    (s.occurrence .linkLost 0).reaction.levels.get g = .safe := by
  have happlies : appliesTo s.active .linkLost 0 g = true := rfl
  rw [State.occurrence_reaction, Quad.get_ofFn, if_pos happlies, State.configuredLevel_linkLost h, Level.max_safe]

/-- The state in which the loss is reported: the link is LOST at the moment of the expiry and has no deadline (R135). -/
def State.linkLostAt (s : State) (d : Nat) : State :=
  (s.withClock (max s.clock d)).withTimer { s.timer with link := .lost, deadline := none }

theorem State.deadlineExpires_eq (s : State) (d : Nat) :
    s.deadlineExpires d = ((s.linkLostAt d).occurrence .linkLost 0).withTimer
      { s.timer with link := .lost, deadline := none, nextExpiry := some (max s.clock d) } := by
  simp [State.deadlineExpires, State.linkLostAt]

theorem State.deadlineComes_of_up {s : State} {d : Nat} (halive : s.alive = true) (hup : s.timer.link = .up)
    (hdeadline : s.timer.deadline = some d) : s.deadlineComes = s.deadlineExpires d := by
  rw [State.deadlineComes, hup, hdeadline]
  exact if_pos halive

theorem State.deadlineComes_of_not_up {s : State} (h : s.timer.link ≠ .up) : s.deadlineComes = s := by
  unfold State.deadlineComes
  split
  case h_1 hup _ => exact absurd hup h
  case h_2 => rfl

/-- Settles O26: the loss is an occurrence of LINK_LOST, a part-wide kind whose configured level is SAFE, and outside UP the
expiry is none. -/
theorem deadlineExpiryLosesLink : Obligations.DeadlineExpiryLosesLink := by
  refine ⟨fun s d halive hup hdeadline hvalid => ?_,
    fun s hup => congrArg Host.Outcome.next (State.deadlineComes_of_not_up hup)⟩
  obtain ⟨r, c, h, hreported, hfaults, hrestart, hestop, hexclusions, -, hcoupling, hoffer⟩ :=
    (s.linkLostAt d).occurrence_reportsBad (k := .linkLost) rfl
  have hsafe : ∀ g, r.levels.get g = .safe := fun g => by
    have hlevel := State.occurrence_linkLost_level (s := s.linkLostAt d) hvalid g
    rwa [hreported] at hlevel
  have hexec : exec .deadlineExpiry s = .next (s.deadlineExpires d) :=
    congrArg Host.Outcome.next (State.deadlineComes_of_up halive hup hdeadline)
  rw [State.deadlineExpires_eq, hreported] at hexec
  exact ⟨r, c, h, hexec, hfaults, hrestart, hestop, hexclusions, hsafe, fun g => hsafe g ▸ hcoupling g, hoffer⟩

end Sys2Proof.Machine
end

section
/-! What an event does to the link state, its two moments and the levels (R97, R132, R134, R135, R139). -/

namespace Sys2Proof.Machine

/-! ### The changes -/

/-- The link state and its moments stand, and no group's level falls. -/
structure State.LinkStands (s t : State) : Prop where
  link : t.timer.link = s.timer.link
  deadline : t.timer.deadline = s.timer.deadline
  nextExpiry : t.timer.nextExpiry = s.timer.nextExpiry
  levels : ∀ g, (s.reaction.levels.get g).code ≤ (t.reaction.levels.get g).code

/-- The link is in a state with the moments this state has (R132), having come to LOST only with every group at SAFE
(R135), or it stands. -/
inductive State.LinkStep (s t : State) : Prop
  | stands (h : s.LinkStands t)
  | told (hlink : t.timer.link = .up) (hdeadline : t.timer.deadline.isSome = true) (hexpiry : t.timer.nextExpiry = none)
  | lost (hlink : t.timer.link = .lost) (hdeadline : t.timer.deadline = none)
      (hexpiry : t.timer.nextExpiry.isSome = true) (hlevels : s.active.valid = true → ∀ g, t.reaction.levels.get g = .safe)
  | reset (hlink : t.timer.link = .idle) (hdeadline : t.timer.deadline = none) (hexpiry : t.timer.nextExpiry = none)

section
variable {s t u : State}

/-- The rules on what each operation leaves unchanged say that it leaves the link and the levels. -/
theorem State.LinkStands.of_same (htimer : t.timer = s.timer := by simp)
    (hlevels : t.reaction.levels = s.reaction.levels := by simp) : s.LinkStands t := by
  constructor <;> simp [htimer, hlevels]

theorem State.LinkStands.trans (h : s.LinkStands t) (h' : t.LinkStands u) : s.LinkStands u :=
  ⟨h'.link.trans h.link, h'.deadline.trans h.deadline, h'.nextExpiry.trans h.nextExpiry,
    fun g => (h.levels g).trans (h'.levels g)⟩

/-- An occurrence raises levels or leaves them (R97). -/
theorem State.occurrence_linkStands (s : State) (k : FaultKind) (c : Chan) : s.LinkStands (s.occurrence k c) := by
  refine ⟨by simp, by simp, by simp, fun g => ?_⟩
  by_cases happlies : appliesTo s.active k c g = true
  · rw [State.occurrence_level_of_applies happlies]
    exact le_max_left _ _
  · rw [State.occurrence_level_of_not_applies happlies]

theorem State.LinkStands.occurrence (h : s.LinkStands t) (k : FaultKind) (c : Chan) : s.LinkStands (t.occurrence k c) :=
  h.trans (t.occurrence_linkStands k c)

/-- The reports of a stage raise levels or leave them (R95, R97). -/
theorem State.reportsTo.linkStands {event : FaultKind → Chan → Prop} (h : s.reportsTo t event)
    (htimer : t.timer = s.timer := by simp) : s.LinkStands t := by
  obtain ⟨-, -, -, hlevels, -⟩ := h
  refine ⟨?_, ?_, ?_, fun g => (hlevels g).1⟩ <;> rw [htimer]

/-! ### Resets and lines -/

theorem State.endReset_linkStands (s : State) : s.LinkStands s.endReset := by
  unfold State.endReset
  dsimp only
  split
  · exact State.LinkStands.occurrence .of_same _ _
  · exact .of_same

theorem State.assertEstop_linkStands (s : State) : s.LinkStands s.assertEstop := by
  unfold State.assertEstop
  dsimp only
  split
  · exact State.LinkStands.occurrence .of_same _ _
  · exact .of_same

theorem State.releaseEstop_linkStands (s : State) : s.LinkStands s.releaseEstop := by
  unfold State.releaseEstop
  dsimp only
  split <;> exact .of_same

/-! ### Telegrams in passage -/

theorem State.driveReady_linkStands (s : State) (o : Outgoing) (m : Nat) : s.LinkStands (s.driveReady o m) := .of_same

theorem State.badDemand_linkStands (s : State) (bytes : List Byte) : s.LinkStands (s.badDemand bytes) := by
  have hcounted := (State.LinkStands.of_same (s := s) (t := s.withCellPort { s.cellPort with
    demandErrors := satInc 65535 s.cellPort.demandErrors })).occurrence .demandCheck 0
  unfold State.badDemand
  dsimp only
  split
  · exact hcounted
  · exact hcounted.trans (State.driveReady_linkStands _ _ _)

/-- A good Demand makes the link UP, dropped or not (R134, R139); a bad one leaves it (R126). -/
theorem State.LinkStands.demandPassage (h : s.LinkStands u) (bytes : List Byte) (m : Nat) :
    s.LinkStep (u.demandPassage bytes m) := by
  unfold State.demandPassage State.goodDemandPassage
  split
  · split
    · refine .told ?_ ?_ ?_ <;> simp [State.countDrop, State.validDemand_timer]
    · refine .told ?_ ?_ ?_ <;> simp [State.validDemand_timer]
  · exact .stands (h.trans (u.badDemand_linkStands bytes))

theorem State.receiveDemand_linkStep (s : State) (bytes : List Byte) : s.LinkStep (s.receiveDemand bytes) := by
  unfold State.receiveDemand
  split
  · exact .stands .of_same
  · exact State.LinkStands.demandPassage .of_same _ _

theorem State.finishDemand_linkStep (s : State) : s.LinkStep s.finishDemand := by
  unfold State.finishDemand
  split
  · exact .stands .of_same
  · have hnext : s.LinkStands (s.withDrivePort { s.drivePort with sending := none }).sendNext := .of_same
    unfold State.beginWaitingDemand
    split
    · exact .stands hnext
    · split
      · exact .stands hnext
      · exact State.LinkStands.demandPassage (hnext.trans .of_same) _ _

theorem State.feedbackPassage_linkStands (s : State) (bytes : List Byte) : s.LinkStands (s.feedbackPassage bytes) := by
  have hcounted := (State.LinkStands.of_same (s := s) (t := s.withDrivePort { s.drivePort with
    feedbackErrors := satInc 65535 s.drivePort.feedbackErrors })).occurrence .feedbackCheck 0
  unfold State.feedbackPassage State.badFeedback
  dsimp only
  split
  · exact .of_same
  · split
    · exact hcounted
    · exact hcounted.trans .of_same

theorem State.receiveFeedback_linkStands (s : State) (bytes : List Byte) : s.LinkStands (s.receiveFeedback bytes) := by
  unfold State.receiveFeedback
  split
  · exact .of_same
  · exact s.feedbackPassage_linkStands bytes

theorem State.beginWaitingFeedback_linkStands (s : State) : s.LinkStands s.beginWaitingFeedback := by
  unfold State.beginWaitingFeedback
  split
  · exact .of_same
  · exact State.LinkStands.trans .of_same (State.feedbackPassage_linkStands _ _)

/-- A reset leaves the link IDLE (R132). -/
theorem State.restartReset_linkStep (s u : State) : s.LinkStep u.restartReset := by
  have htimer : u.restartReset.timer = Timer.reset := by simp [State.restartReset, State.resetBlocks, State.reset]
  exact .reset (by rw [htimer]; rfl) (by rw [htimer]; rfl) (by rw [htimer]; rfl)

theorem State.finishFeedback_linkStep (s : State) : s.LinkStep s.finishFeedback := by
  unfold State.finishFeedback
  split
  · exact .stands .of_same
  · dsimp only
    split
    · split
      · exact s.restartReset_linkStep _
      · exact .stands (State.LinkStands.trans .of_same (State.beginWaitingFeedback_linkStands _))
    · exact .stands (State.LinkStands.trans .of_same (State.beginWaitingFeedback_linkStands _))

/-! ### Every event -/

theorem State.deadlineComes_linkStep (s : State) : s.LinkStep s.deadlineComes := by
  unfold State.deadlineComes
  split
  · split
    · rw [State.deadlineExpires_eq]
      exact .lost rfl rfl rfl fun hvalid => State.occurrence_linkLost_level (s := s.linkLostAt _) hvalid
    · exact .stands .of_same
  · exact .stands .of_same

theorem State.happens_linkStep (s : State) (e : Event) : s.LinkStep (s.happens e) := by
  cases e with
  | estopAssert => exact .stands s.assertEstop_linkStands
  | estopRelease => exact .stands s.releaseEstop_linkStands
  | setupChange active => exact .stands (.of_same (t := s.changeSetup active))
  | demandReception bytes => exact s.receiveDemand_linkStep bytes
  | demandSent => exact s.finishDemand_linkStep
  | feedbackReception bytes => exact .stands (s.receiveFeedback_linkStands bytes)
  | feedbackSent => exact s.finishFeedback_linkStep
  | deadlineExpiry => exact s.deadlineComes_linkStep
  | commitCheckEnd => exact .stands (.of_same (t := s.checkEnds))
  | calibrationWriteEnd => exact .stands (.of_same (t := s.writeEnds))

/-- No stage touches the link, and none lowers a level. -/
theorem State.stage_linkStands {old : Option Image} {sent : Bool} {f : State → State} (hf : f ∈ cycleStages old sent)
    (s : State) : s.LinkStands (f s) := by
  simp only [cycleStages, List.mem_cons, List.not_mem_nil, or_false] at hf
  rcases hf with rfl | rfl | rfl | rfl | rfl | rfl
  · exact (s.speedSettling_reportsTo old sent).linkStands
  · exact State.reportsTo.linkStands s.referenceStage_reportsCauses
  · exact .of_same (t := s.couplingStage)
  · exact State.reportsTo.linkStands (s.compositionStage_reportsCauses old)
  · exact State.reportsTo.linkStands s.monitoringStage_reportsCauses
  · exact .of_same (t := s.historyStage)

theorem State.handDown_linkStands (s : State) (origin : DemandOrigin) (bytes : List Byte) (latency : Nat) :
    s.LinkStands (s.handDown origin bytes latency) := by
  have hended : s.LinkStands s.endCycle := ⟨rfl, rfl, rfl, fun _ => le_rfl⟩
  unfold State.handDown
  split
  · exact hended.trans (State.driveReady_linkStands _ _ _)
  · exact .of_same

end

end Sys2Proof.Machine
end

section
/-! The forms a command's run can take, and that none leaves a computation or a Demand that awaits one (R133). -/

namespace Sys2Proof.Machine

/-! ### The forms -/

/-- Whether an event may begin a Demand's passage (R120). -/
def beginsDemand : Event → Bool
  | .demandReception _ => true
  | .demandSent => true
  | _ => false

/-- What a command can be: time alone while the unit is held (R122), the end of a held reset or a reset, an event, the
hand-over of a request, an event with the computation of the Demand it brings, or a substitute expiry in LOST. -/
inductive State.Commanded (s : State) : State → Prop
  | held (elapsed : Nat) : s.Commanded (s.tick elapsed)
  | released : s.Commanded (s.withResetHeld false)
  | resumed : s.Commanded (s.withResetHeld false).endReset
  | reset (u : State) : s.Commanded u.resetBlocks
  | restarted (u : State) : s.Commanded u.restartReset
  | event (elapsed : Nat) (e : Event) (he : beginsDemand e = false) : s.Commanded ((s.tick elapsed).happens e)
  | request (q : Request) : s.Commanded (s.handOver q)
  | demand (elapsed : Nat) (e : Event) (course : Course) :
    s.Commanded (((s.tick elapsed).happens e).runAccepted course 0)
  | substitute (expiry : Nat) (course : Course) (hlost : s.timer.link = .lost) :
    s.Commanded (s.substituteExpires expiry course)

section
variable (s : State)

theorem State.commanded_self : s.Commanded s := .held 0

theorem State.request_commanded (kind : Byte) (area : RequestArea) : s.Commanded (s.request kind area) := by
  unfold State.request
  split
  · exact .request _
  · exact s.commanded_self

/-- An event as a command without a moment of its own. -/
theorem State.happens_commanded (e : Event) (he : beginsDemand e = false) : s.Commanded (s.happens e) := .event 0 e he

/-- An event taken as a command at its moment, while the unit takes it. -/
theorem State.eventComes_commanded (elapsed : Nat) (e : Event) (he : beginsDemand e = false) :
    s.Commanded (if s.alive then (s.tick elapsed).happens e else s.tick elapsed) := by
  split
  · exact .event elapsed e he
  · exact .held elapsed

theorem State.demandComes_commanded (elapsed : Nat) (course : Course) (bytes : List Byte) :
    s.Commanded (s.demandComes elapsed course bytes) := by
  unfold State.demandComes
  split
  · exact .demand elapsed (.demandReception bytes) course
  · exact .held elapsed

theorem exec_commanded (c : Instr) : ∃ t, exec c s = .next t ∧ s.Commanded t := by
  cases c with
  | powerOn =>
    refine ⟨_, rfl, ?_⟩
    split
    · exact .reset _
    · exact .restarted (s.withPowered true)
  | resetInputAssert | powerFailure => exact ⟨_, rfl, .reset _⟩
  | resetInputRelease =>
    refine ⟨_, rfl, ?_⟩
    split
    · split
      · exact .resumed
      · exact .released
    · exact s.commanded_self
  | estopAssert => exact ⟨_, rfl, s.happens_commanded .estopAssert rfl⟩
  | estopRelease => exact ⟨_, rfl, s.happens_commanded .estopRelease rfl⟩
  | setupChange active => exact ⟨_, rfl, s.happens_commanded (.setupChange active) rfl⟩
  | deadlineExpiry => exact ⟨_, rfl, s.happens_commanded .deadlineExpiry rfl⟩
  | commitCheckEnd => exact ⟨_, rfl, s.happens_commanded .commitCheckEnd rfl⟩
  | calibrationWriteEnd => exact ⟨_, rfl, s.happens_commanded .calibrationWriteEnd rfl⟩
  | feedbackReception elapsed bytes => exact ⟨_, rfl, s.eventComes_commanded elapsed (.feedbackReception bytes) rfl⟩
  | feedbackSent elapsed => exact ⟨_, rfl, s.eventComes_commanded elapsed .feedbackSent rfl⟩
  | demandReception elapsed course bytes => exact ⟨_, rfl, s.demandComes_commanded elapsed course bytes⟩
  | demandSent elapsed course =>
    refine ⟨_, rfl, ?_⟩
    split
    · exact .demand elapsed .demandSent course
    · exact .held elapsed
  | substituteExpiry course =>
    refine ⟨_, rfl, ?_⟩
    split
    case h_1 hlost _ =>
      split
      · exact .substitute _ course hlost
      · exact s.commanded_self
    case h_2 => exact s.commanded_self
  | engage g carrier | release g carrier | clear g carrier => exact ⟨_, rfl, s.demandComes_commanded _ _ _⟩
  | clearPart carrier | capture carrier | rearm carrier | clearRestart carrier =>
    exact ⟨_, rfl, s.demandComes_commanded _ _ _⟩
  | read area | openTransfer area | transferData area | closeTransfer area | commit area | liveWrite area
  | setLiveWindow area | groupControl area | storeCalibration area | restart area | describe area =>
    exact ⟨_, rfl, s.request_commanded _ area⟩
  | unknownKind kind area => exact ⟨_, rfl, s.request_commanded kind area⟩

end

/-- A property that every form of a command keeps holds after every step, where the waiting commands are no part of it. -/
theorem step_keeps {P : State → Prop} (hpending : ∀ (s : State) (cs : List Instr), P s → P { s with pending := cs })
    (hcommanded : ∀ s t : State, P s → s.Commanded t → P t) {s t : State} (h : P s) (hstep : step s = .next t) : P t := by
  cases hqueue : s.pending with
  | nil =>
    rw [step_of_idle hqueue] at hstep
    cases hstep
    exact h
  | cons c rest =>
    obtain ⟨u, hexec, hu⟩ := exec_commanded { s with pending := rest } c
    rw [step_of_waiting hqueue, hexec] at hstep
    cases hstep
    exact hcommanded _ _ (hpending s rest h) hu

/-! ### The end of a command (R133) -/

section
variable {s : State}

theorem State.resetBlocks_idle (s : State) : s.resetBlocks.idle := ⟨rfl, rfl⟩

theorem State.idle.endReset (h : s.idle) : s.endReset.idle := by
  simpa [State.idle] using h

/-- No event begins a computation (R133). -/
theorem State.happens_computing_none (h : s.timer.computing = none) (e : Event) :
    (s.happens e).timer.computing = none := by
  rcases s.happens_cases e with same | ⟨u, hreset⟩
  · exact same.computing.trans h
  · rw [hreset]
    exact u.resetBlocks_idle.endReset.1

@[simp] theorem State.feedbackPassage_accepted (s : State) (bytes : List Byte) :
    (s.feedbackPassage bytes).cellPort.accepted = s.cellPort.accepted := by
  unfold State.feedbackPassage State.insertAndSend State.badFeedback
  dsimp only
  split <;> split <;> simp [State.sendUp, State.carried]

@[simp] theorem State.beginWaitingFeedback_accepted (s : State) :
    s.beginWaitingFeedback.cellPort.accepted = s.cellPort.accepted := by
  unfold State.beginWaitingFeedback
  split <;> simp

/-- An event at another line or at the Drive port brings no Demand to its computation. -/
theorem State.happens_accepted_none (h : s.cellPort.accepted = none) {e : Event} (he : beginsDemand e = false) :
    (s.happens e).cellPort.accepted = none := by
  cases e with
  | demandReception bytes | demandSent => cases he
  | feedbackReception bytes =>
    unfold State.happens State.receiveFeedback
    dsimp only
    split <;> simpa using h
  | feedbackSent =>
    unfold State.happens State.finishFeedback
    dsimp only
    split
    · exact h
    · split
      · split
        · exact State.restartReset_accepted _
        · simpa using h
      · simpa using h
  | estopAssert | estopRelease | setupChange active | deadlineExpiry | commitCheckEnd | calibrationWriteEnd =>
    simpa [State.happens] using h

/-- A computation that has handed down its telegram, or was abandoned, runs no more (R133, R142). -/
theorem State.handDown_computing (s : State) (origin : DemandOrigin) (bytes : List Byte) (latency : Nat) :
    (s.handDown origin bytes latency).timer.computing = none := by
  by_cases habandoned : s.timer.computing = none
  · rwa [State.handDown_of_abandoned habandoned]
  · rw [State.handDown_of_running habandoned]
    simp

@[simp] theorem State.handDown_cellPort (s : State) (origin : DemandOrigin) (bytes : List Byte) (latency : Nat) :
    (s.handDown origin bytes latency).cellPort = s.cellPort := by
  by_cases habandoned : s.timer.computing = none
  · rw [State.handDown_of_abandoned habandoned]
  · rw [State.handDown_of_running habandoned]
    simp

/-- The Demand that awaits a computation has it, and none awaits one after it (R123, R133). -/
theorem State.runAccepted_idle (h : s.timer.computing = none) (course : Course) (point : Nat) :
    (s.runAccepted course point).idle := by
  cases haccepted : s.cellPort.accepted with
  | none =>
    rw [State.runAccepted_of_none haccepted]
    exact ⟨h, haccepted⟩
  | some bytes =>
    rw [State.runAccepted_of_accepted haccepted h]
    refine ⟨State.handDown_computing _ _ _ _, ?_⟩
    simp [State.processDemand, State.sendEdited]

theorem State.idle.commanded {t : State} (h : s.idle) (hcommanded : s.Commanded t) : t.idle := by
  obtain ⟨hcomputing, haccepted⟩ := h
  have hfree (elapsed : Nat) (e : Event) : ((s.tick elapsed).happens e).timer.computing = none :=
    State.happens_computing_none (by simpa using hcomputing) e
  cases hcommanded with
  | held elapsed => exact ⟨hcomputing, haccepted⟩
  | released => exact ⟨hcomputing, haccepted⟩
  | resumed => exact State.idle.endReset (s := s.withResetHeld false) ⟨hcomputing, haccepted⟩
  | reset u => exact u.resetBlocks_idle
  | restarted u => exact u.resetBlocks_idle.endReset
  | event elapsed e he => exact ⟨hfree elapsed e, State.happens_accepted_none (by simpa using haccepted) he⟩
  | request q => simpa [State.idle] using And.intro hcomputing haccepted
  | demand elapsed e course => exact State.runAccepted_idle (hfree elapsed e) course 0
  | substitute expiry course => exact State.runAccepted_idle (State.handDown_computing _ _ _ _) course 7

end

end Sys2Proof.Machine
end

section
/-! Every step keeps the moments of each link state, the loss shown with every group at SAFE, and no computation running
between two commands (R132, R133, R135). -/

namespace Sys2Proof.Machine

/-! ### The deadline and the next substitute expiry (R132, R136) -/

section
variable {s t : State}

theorem State.LinkStands.timerOk (h : s.LinkStands t) (hs : s.timerOk) : t.timerOk := by
  rwa [State.timerOk, h.link, h.deadline, h.nextExpiry]

theorem State.LinkStep.timerOk (h : s.LinkStep t) (hs : s.timerOk) : t.timerOk := by
  cases h with
  | stands h => exact h.timerOk hs
  | told hlink hdeadline hexpiry => simp [State.timerOk, hlink, hdeadline, hexpiry]
  | lost hlink hdeadline hexpiry => simp [State.timerOk, hlink, hdeadline, hexpiry]
  | reset hlink hdeadline hexpiry => simp [State.timerOk, hlink, hdeadline, hexpiry]

theorem State.resetBlocks_timerOk (s : State) : s.resetBlocks.timerOk := by
  have htimer : s.resetBlocks.timer = Timer.reset := rfl
  rw [State.timerOk, htimer]
  decide

theorem State.timerOk.takeEvent (h : s.timerOk) (e : MidEvent) : (s.takeEvent e).timerOk := by
  unfold State.takeEvent
  split
  · exact (State.happens_linkStep (s.tick e.elapsed) e.event).timerOk h
  · exact h

/-- The start of a substitute computation sets the next expiry, and the link is LOST then (R136). -/
theorem State.timerOk.startCycle (h : s.timerOk) {start : CycleStart}
    (hlost : ∀ expiry, start = .substitute expiry → s.timer.link = .lost) : (s.startCycle start).timerOk := by
  rw [State.timerOk, State.startCycle_timer]
  cases start with
  | cell slots =>
    rw [State.startWork_timer_cell]
    exact h
  | substitute expiry =>
    rw [State.startWork_timer_substitute]
    exact ⟨h.1, iff_of_true rfl (hlost expiry rfl)⟩

theorem State.timerOk.computeCycle (h : s.timerOk) {start : CycleStart}
    (hlost : ∀ expiry, start = .substitute expiry → s.timer.link = .lost) (during : List MidEvent) (point : Nat) :
    (s.computeCycle start during point).timerOk :=
  State.runFrom_keeps (fun _ hf u hu => (State.stage_linkStands hf u).timerOk hu) (fun e _ _ hu => hu.takeEvent e) point _
    (h.startCycle hlost)

theorem State.timerOk.runAccepted (h : s.timerOk) (course : Course) (point : Nat) :
    (s.runAccepted course point).timerOk := by
  unfold State.runAccepted
  split
  case h_1 bytes _ _ =>
    have hcomputed := h.computeCycle (start := .cell (demandSlots bytes)) nofun course.during point
    exact (State.handDown_linkStands _ _ _ _).timerOk hcomputed
  case h_2 => exact h

theorem State.timerOk.commanded (h : s.timerOk) (hcommanded : s.Commanded t) : t.timerOk := by
  have hevent (elapsed : Nat) (e : Event) : ((s.tick elapsed).happens e).timerOk :=
    ((s.tick elapsed).happens_linkStep e).timerOk h
  cases hcommanded with
  | held elapsed => exact h
  | released => exact h
  | resumed => exact (s.withResetHeld false).endReset_linkStands.timerOk h
  | reset u => exact u.resetBlocks_timerOk
  | restarted u => exact u.resetBlocks.endReset_linkStands.timerOk u.resetBlocks_timerOk
  | event elapsed e he => exact hevent elapsed e
  | request q => exact (State.LinkStands.of_same (t := s.handOver q)).timerOk h
  | demand elapsed e course => exact (hevent elapsed e).runAccepted course 0
  | substitute expiry course hlost =>
    have hcomputed := State.timerOk.computeCycle (s := s.withClock (max s.clock expiry)) (start := .substitute expiry) h
      (fun _ _ => hlost) course.during 0
    exact ((State.handDown_linkStands _ _ _ _).timerOk hcomputed).runAccepted course 7

end

/-! ### The loss shown in its entry (R93 to R95, R135) -/

section
variable {s t : State}

/-- While the link is LOST the entry of LINK_LOST shows its cause. -/
def State.lossShown (s : State) : Prop := s.timer.link = .lost → showsCause s.reaction.faults (.linkLost, 0)

/-- While the link is LOST every group's level is SAFE. -/
def State.lossSafe (s : State) : Prop := s.timer.link = .lost → ∀ g, s.reaction.levels.get g = .safe

theorem State.lostOk_iff (s : State) : s.lostOk ↔ s.lossShown ∧ s.lossSafe := forall_and

theorem State.cause_linkLost_iff (s : State) : s.cause .linkLost 0 = true ↔ s.timer.link = .lost := by
  simp [State.cause]

/-- A cause that stands through a stage keeps the entry that shows it. -/
theorem State.reportsTo.showsCause_of_stands {event : FaultKind → Chan → Prop} (h : s.reportsTo t event) {k : FaultKind}
    {c : Chan} (hcause : t.cause k c = true) (hshown : showsCause s.reaction.faults (k, c)) :
    showsCause t.reaction.faults (k, c) := by
  obtain ⟨f, hf, hkey, hpresent⟩ := hshown
  obtain ⟨rfl, rfl⟩ := Prod.mk.inj hkey
  obtain ⟨i, hi⟩ := List.getElem?_of_mem hf
  obtain ⟨e, he, ⟨-, rfl⟩ | ⟨hgone, -⟩ | ⟨-, rfl⟩⟩ := h.entryAt hi
  · exact ⟨_, List.mem_of_getElem? he, rfl, State.lasting_of_cause hcause⟩
  · exact absurd (hcause.symm.trans hgone) (by decide)
  · exact ⟨_, List.mem_of_getElem? he, rfl, hpresent⟩

/-- Each change of the Fault store shows the loss that it finds shown or reports. -/
theorem State.FaultStep.lossShown (h : s.FaultStep t) (hs : s.lossShown) : t.lossShown := by
  intro hlost
  rw [← State.cause_linkLost_iff] at hlost
  rw [State.lossShown, ← State.cause_linkLost_iff] at hs
  cases h with
  | alike same =>
    rw [same.cause] at hlost
    rw [same.faults]
    exact hs hlost
  | report p h =>
    obtain ⟨cycle, hfaults⟩ := h.faults
    rw [hfaults]
    by_cases hkey : (.linkLost, 0) = p.key
    · have hcause := h.reported
      rw [← hkey] at hcause
      rw [hkey, showsCause_storeAfter_same, ← hcause]
      exact hlost
    · rw [h.other _ _ hkey] at hlost
      rw [showsCause_storeAfter_other hkey]
      exact hs hlost
  | stage event hevents h =>
    by_cases hbefore : s.cause .linkLost 0 = true
    · exact h.showsCause_of_stands hlost (hs hbefore)
    · obtain ⟨f, hf, hkey, hpresent, -⟩ := h.entry ⟨Bool.eq_false_iff.mpr hbefore, hlost⟩
      exact ⟨f, hf, hkey, hpresent⟩
  | remove h =>
    obtain ⟨keeps, hkeeps, hfaults⟩ := h.faults
    rw [h.cause] at hlost
    rw [hfaults, showsCause_filter hkeeps]
    exact hs hlost
  | reset hfaults hcauses =>
    rw [hcauses] at hlost
    cases hlost

theorem State.FaultsEvolve.lossShown (h : s.FaultsEvolve t) (hs : s.lossShown) : t.lossShown := by
  induction h with
  | refl => exact hs
  | tail _ hstep ih => exact hstep.lossShown ih

/-! ### Every group at SAFE (R97, R102, R135) -/

theorem State.LinkStands.lossSafe (h : s.LinkStands t) (hs : s.lossSafe) : t.lossSafe := fun hlost g => by
  have hsafe := hs (h.link.symm.trans hlost) g
  have hlevel := h.levels g
  rw [hsafe] at hlevel
  exact Level.eq_safe_of_le hlevel

theorem State.LinkStep.lossSafe (h : s.LinkStep t) (hvalid : s.active.valid = true) (hs : s.lossSafe) : t.lossSafe := by
  cases h with
  | stands h => exact h.lossSafe hs
  | told hlink => exact fun hlost => by rw [hlink] at hlost; cases hlost
  | lost hlink hdeadline hexpiry hlevels => exact fun _ => hlevels hvalid
  | reset hlink => exact fun hlost => by rw [hlink] at hlost; cases hlost

/-- The entry of a loss is not removed, so the levels worked out again are SAFE (R100 to R102). -/
theorem State.recomputedLevel_of_lossShown (hvalid : s.active.valid = true) {w : Word}
    (hshown : showsCause s.reaction.faults (.linkLost, 0)) (g : Chan) :
    s.recomputedLevel (s.keptFaults w) g = .safe := by
  obtain ⟨f, hf, hkey, hpresent⟩ := hshown
  obtain ⟨hkind, -⟩ := Prod.mk.inj hkey
  have hkept : f ∈ s.keptFaults w := (s.mem_keptFaults w f).mpr ⟨hf, by simp [removable, hpresent]⟩
  have happlies : appliesTo s.active f.kind f.scope g = true := (appliesTo_iff _ _ _ _).mpr (.inl (by rw [hkind]; rfl))
  have hlevel := (s.recomputedLevel_greatest (s.keptFaults w) g).1 f hkept happlies
  rw [hkind, State.configuredLevel_linkLost hvalid] at hlevel
  exact Level.eq_safe_of_le hlevel

theorem State.performSet_lossSafe (hvalid : s.active.valid = true) (h : s.lostOk) (w : Word) :
    (s.performSet w).lossSafe := by
  intro hlost g
  have htimer : (s.performSet w).timer = s.timer := by simp
  rw [htimer] at hlost
  obtain ⟨hshown, hsafe⟩ := s.lostOk_iff.mp h
  rw [State.performSet_reaction, State.levelsAfter]
  split
  · rw [Quad.get_ofFn]
    exact State.recomputedLevel_of_lossShown hvalid (hshown hlost) g
  · exact hsafe hlost g

theorem State.startWork_lostOk (h : s.lostOk) (start : CycleStart) : (s.startWork start).lostOk := by
  have hlink : (s.startWork start).timer.link = s.timer.link := by
    cases start with
    | cell slots => rw [State.startWork_timer_cell]
    | substitute expiry => rw [State.startWork_timer_substitute]
  rw [State.lostOk, hlink, State.startWork_reaction]
  exact h

/-- The start of a computation takes levels back by clears alone, which find the loss shown (R102). -/
theorem State.startCycle_lossSafe (himages : s.imagesOk) (h : s.lostOk) (start : CycleStart) :
    (s.startCycle start).lossSafe := by
  have hwork := State.startWork_lostOk h start
  have hvalid : (s.startWork start).active.valid = true := (State.startWork_imagesOk himages start).1
  have hstands := ((s.startWork start).lostOk_iff.mp hwork).2
  unfold State.startCycle State.groupFunctionPoint
  split
  case h_1 q _ _ _ =>
    split
    · exact State.performSet_lossSafe hvalid hwork (q.dataWord 0)
    · exact hstands
  case h_2 => exact hstands

end

/-! ### The loss with valid images -/

/-- The stores are in order, and a loss is shown with every group at SAFE. -/
def State.lossHeld (s : State) : Prop := s.storesOk ∧ s.lostOk

section
variable {s t : State}

theorem State.lossHeld.of_safe (h : s.lossHeld) (hstores : t.storesOk) (hevolve : s.FaultsEvolve t) (hsafe : t.lossSafe) :
    t.lossHeld :=
  ⟨hstores, t.lostOk_iff.mpr ⟨hevolve.lossShown (s.lostOk_iff.mp h.2).1, hsafe⟩⟩

theorem State.lossHeld.lossSafe (h : s.lossHeld) : s.lossSafe := (s.lostOk_iff.mp h.2).2

theorem State.lossHeld.stands (h : s.lossHeld) (hstores : t.storesOk) (hevolve : s.FaultsEvolve t)
    (hstands : s.LinkStands t) : t.lossHeld :=
  h.of_safe hstores hevolve (hstands.lossSafe h.lossSafe)

theorem State.lossHeld.happens (h : s.lossHeld) (e : Event) : (s.happens e).lossHeld :=
  h.of_safe (storesOk_kept.happens e h.1) (s.happens_evolve e) ((s.happens_linkStep e).lossSafe h.1.2.1 h.lossSafe)

theorem State.lossHeld.tick (h : s.lossHeld) (n : Nat) : (s.tick n).lossHeld := ⟨storesOk_kept.tick n h.1, h.2⟩

theorem State.lossHeld.takeEvent (h : s.lossHeld) (e : MidEvent) : (s.takeEvent e).lossHeld := by
  unfold State.takeEvent
  split
  · exact (h.tick e.elapsed).happens e.event
  · exact h

theorem State.lossHeld.computeCycle (h : s.lossHeld) (start : CycleStart) (during : List MidEvent) (point : Nat) :
    (s.computeCycle start during point).lossHeld :=
  State.runFrom_keeps
    (fun _ hf u hu => hu.stands (storesOk_kept.stage hf hu.1) (u.stage_evolve hf) (State.stage_linkStands hf u))
    (fun e _ _ hu => hu.takeEvent e) point _
    (h.of_safe (storesOk_kept.startCycle start h.1) (s.startCycle_evolve start) (State.startCycle_lossSafe h.1.2 h.2 start))

theorem lossHeld_kept : KeptByParts State.lossHeld where
  pending _ h := ⟨storesOk_kept.keep h.1 (by constructor <;> simp), h.2⟩
  resetHeld _ h := ⟨storesOk_kept.keep h.1, h.2⟩
  clock _ h := ⟨storesOk_kept.keep h.1, h.2⟩
  resetBlocks s := ⟨storesOk_kept.resetBlocks s, nofun⟩
  endReset h := h.stands (storesOk_kept.endReset h.1) (State.endReset_evolve _) (State.endReset_linkStands _)
  happens e h := h.happens e
  handOver q h := h.stands (storesOk_kept.handOver q h.1) .of_alike .of_same
  computeCycle start during point h := h.computeCycle start during point
  accepted _ h := ⟨storesOk_kept.keep h.1, h.2⟩
  handDown origin bytes latency h :=
    h.stands (storesOk_kept.handDown origin bytes latency h.1) (State.handDown_evolve _ _ _ _)
      (State.handDown_linkStands _ _ _ _)

end

/-- Settles O9: an event brings each link state with its moments, a substitute computation starts in LOST alone, every
command runs what it begins to its end, and a clear in LOST finds the entry of the loss, which keeps every level at SAFE. -/
theorem stepKeepsLinkAndLoss : Obligations.StepKeepsLinkAndLoss :=
  ⟨fun _ _ => step_keeps (fun _ _ h => h) (fun _ _ h => h.commanded),
    fun _ _ => step_keeps (fun _ _ h => h) (fun _ _ h => h.commanded),
    fun _ _ hqueue hheld himages hlost hstep => (lossHeld_kept.step ⟨⟨⟨hqueue, hheld⟩, himages⟩, hlost⟩ hstep).2⟩

end Sys2Proof.Machine
end

section
/-! The Service queue, the images and the transfer context after every step (R148, R150, R151, R153 to R163). -/

namespace Sys2Proof.Machine

/-! ### The Service queue and the images -/

/-- Settles O4: `serviceOk_kept` has every elementary change keep the queue in order and the head held. -/
theorem stepKeepsServiceQueue : Obligations.StepKeepsServiceQueue := fun _ _ hqueue hheld hstep =>
  serviceOk_kept.step ⟨hqueue, hheld⟩ hstep

/-- Settles O5: the defaults pass every check, and `storesOk_kept` has every elementary change keep the images valid while
the queue is in order and the head held. -/
theorem stepKeepsImagesValid : Obligations.StepKeepsImagesValid :=
  ⟨defaultImage_valid, fun _ _ hqueue hheld himages hstep => (storesOk_kept.step ⟨⟨hqueue, hheld⟩, himages⟩ hstep).2⟩

/-! ### The transfer context (R150 to R152) -/

/-- An open context's run lies in the image and its current index before its last. -/
def Transfer.inBounds (t : Transfer) : Prop :=
  t.isOpen = true → t.first ≤ t.last ∧ t.last ≤ 253 ∧ (t.first : Int) - 1 ≤ t.current ∧ t.current < t.last

theorem State.transferOk_iff (s : State) : s.transferOk ↔ s.images.transfer.inBounds := Iff.rfl

theorem Transfer.inBounds_of_closed {t : Transfer} (h : t.isOpen = false) : t.inBounds := fun hopen => by
  rw [h] at hopen
  cases hopen

/-- The values that land stop at the last index, and a context whose current index reaches it is closed (R151). -/
theorem Transfer.inBounds.advance {t : Transfer} (h : t.inBounds) (hopen : t.isOpen = true) (n : Nat) :
    (t.advance n).inBounds := fun hstays => by
  obtain ⟨hrun, hlast, hfirst, hcurrent⟩ := h hopen
  have hstays : t.current + (t.landing n : Int) ≠ t.last := of_decide_eq_true hstays
  have hlanding : t.landing n ≤ ((t.last : Int) - t.current).toNat := min_le_right _ _
  refine ⟨hrun, hlast, ?_, ?_⟩
  · show (t.first : Int) - 1 ≤ t.current + t.landing n
    omega
  · show t.current + (t.landing n : Int) < t.last
    omega

theorem State.openedTransfer_inBounds {s : State} (h : s.images.transfer.inBounds) (first last : Nat) :
    (s.openedTransfer first last).inBounds := by
  unfold State.openedTransfer
  split
  case isTrue hdone =>
    have hrun : ¬ (last < first ∨ 253 < last) := fun hrange => by
      rw [State.openOutcome, if_pos hrange] at hdone
      cases hdone
    refine fun _ => ⟨?_, ?_, le_refl _, ?_⟩ <;> dsimp only <;> omega
  case isFalse => exact h

theorem State.isOpen_of_dataOutcome_done {s : State} {n : Nat} (h : s.dataOutcome n = .done) :
    s.images.transfer.isOpen = true := by
  by_contra hclosed
  rw [State.dataOutcome, if_pos (by simpa using hclosed)] at h
  cases h

theorem State.transferred_inBounds {s : State} (h : s.images.transfer.inBounds) (q : Request) :
    (s.transferred q).transfer.inBounds := by
  unfold State.transferred
  dsimp only
  split
  case h_1 hdone => exact h.advance (State.isOpen_of_dataOutcome_done hdone) _
  · exact Transfer.inBounds_of_closed rfl
  · exact h

theorem State.performLiveWrite_transfer (s : State) (q : Request) :
    (s.performLiveWrite q).images.transfer = s.images.transfer := by
  unfold State.performLiveWrite
  dsimp only
  split
  · simp
  · split
    · simp
    · split <;> simp

theorem State.performWindow_transfer (s : State) (q : Request) :
    (s.performWindow q).images.transfer = s.images.transfer := by
  unfold State.performWindow
  split
  · simp
  · split <;> simp

/-- No request but the three of a transfer changes its context. -/
theorem State.performKind_transfer {s : State} {q : Request} (hopen : q.code ≠ 2) (hdata : q.code ≠ 3)
    (hclose : q.code ≠ 4) : (s.performKind q).images.transfer = s.images.transfer := by
  unfold State.performKind
  split
  · simp
  · contradiction
  · contradiction
  · contradiction
  · unfold State.performCommit
    split <;> simp
  · exact s.performLiveWrite_transfer q
  · exact s.performWindow_transfer q
  · unfold State.performControl
    split <;> simp
  · unfold State.performStore
    split <;> simp
  · unfold State.performRestart
    split <;> simp
  · simp
  · simp

theorem State.performKind_transferOk {s : State} (h : s.transferOk) (q : Request) : (s.performKind q).transferOk := by
  rw [State.transferOk_iff] at h ⊢
  by_cases hopen : q.code = 2
  · have hperform : s.performKind q = s.performOpen q := by simp [State.performKind, hopen]
    rw [hperform]
    exact State.openedTransfer_inBounds h _ _
  by_cases hdata : q.code = 3
  · have hperform : s.performKind q = s.performData q := by simp [State.performKind, hdata]
    rw [hperform]
    exact State.transferred_inBounds h q
  by_cases hclose : q.code = 4
  · have hperform : s.performKind q = s.performClose q := by simp [State.performKind, hclose]
    rw [hperform, State.performClose]
    split
    · exact Transfer.inBounds_of_closed rfl
    · exact h
  · rw [State.performKind_transfer hopen hdata hclose]
    exact h

theorem State.transferOk_congr {s t : State} (h : s.transferOk) (htransfer : t.images.transfer = s.images.transfer) :
    t.transferOk := by rwa [State.transferOk_iff, htransfer]

theorem State.performHead_transferOk {s : State} (h : s.transferOk) : s.performHead.transferOk := by
  unfold State.performHead
  split
  · exact h
  · refine State.performKind_transferOk ?_ _
    exact h

/-! ### The context through every step -/

theorem State.checkEnds_transfer (s : State) : s.checkEnds.images.transfer = s.images.transfer := by
  unfold State.checkEnds
  split
  · obtain ⟨c, -, himages⟩ := s.endCheck_images
    rw [himages]
  · rfl

theorem State.writeEnds_transfer (s : State) : s.writeEnds.images.transfer = s.images.transfer := by
  unfold State.writeEnds
  split
  · split
    · rw [State.endWrite_images]
    · rfl
  · rfl

theorem State.startCycle_transfer (s : State) (start : CycleStart) :
    (s.startCycle start).images.transfer = s.images.transfer := by
  have hcopy : (s.beginCycle start).commitCopy.images.transfer = (s.beginCycle start).images.transfer := by
    unfold State.commitCopy
    split <;> simp
  rw [State.startCycle_images, State.startWork_images, hcopy, State.beginCycle_images]

theorem transferOk_kept : KeptByChanges State.transferOk where
  alike same h := State.transferOk_congr h (congrArg ImageStore.transfer same.images)
  occurrence k c h := State.transferOk_congr h (by simp)
  setupLine _ h := h
  resetBlocks s := Transfer.inBounds_of_closed rfl
  checkEnds h := State.transferOk_congr h (State.checkEnds_transfer _)
  writeEnds h := State.transferOk_congr h (State.writeEnds_transfer _)
  handOver q h := by
    unfold State.handOver
    split
    · split
      · exact State.performHead_transferOk (State.transferOk_congr h rfl)
      · exact h
    · exact h
  sendPlain _ _ h := h
  sendAnswer _ _ _ h := h
  sentPlain _ _ h := h
  sentAnswer _ _ h := State.performHead_transferOk (State.transferOk_congr h rfl)
  startCycle start h := State.transferOk_congr h (State.startCycle_transfer _ start)
  couplingStage h := State.transferOk_congr h (by simp)

/-- Settles O14: only the three requests of a transfer change an open context, which opens on a run in the image and whose
current index closes it on reaching the last. -/
theorem stepKeepsTransferInBounds : Obligations.StepKeepsTransferInBounds := fun _ _ h hstep =>
  transferOk_kept.step h hstep

end Sys2Proof.Machine
end

section
/-! POWER_FAILURE with a write going on, and the state after reset (R92, R146 to R148, R159). -/

namespace Sys2Proof.Machine

/-! ### POWER_FAILURE (R159) -/

/-- A power-on with no write going on loads the defaults where the store is invalid (R146). -/
theorem exec_powerOn_of_invalid {s : State} (hwriting : s.images.writing = none) (hinvalid : s.calibration.valid = false) :
    ∃ t, exec .powerOn s = .next t ∧ t.calibration.valid = false ∧ t.images.calibrationValid = false ∧
      t.images.active = defaultImage ∧ t.images.staging = defaultImage := by
  have hstore : (s.withPowered true).survivingStore = s.calibration := State.survivingStore_of_idle hwriting
  have himage : loadedImage (s.withPowered true).survivingStore = defaultImage := by
    rw [hstore, loadedImage_of_invalid hinvalid]
  have hvalid : (s.withPowered true).survivingStore.valid = false := hstore.symm ▸ hinvalid
  refine ⟨_, rfl, ?_⟩
  split
  · exact ⟨hvalid, hvalid, himage, himage⟩
  · simp only [State.endReset_images, State.endReset_frame]
    exact ⟨hvalid, hvalid, himage, himage⟩

/-- Settles O16: the failure keeps the store or abandons a write, and the reset at power-on, which finds no write going on,
loads the store that the failure left. -/
theorem powerFailureLosesUnfinishedStore : Obligations.PowerFailureLosesUnfinishedStore := by
  intro s
  obtain ⟨hidle, hwriting⟩ := (s.withPowered false).resetBlocks_storeKept
  refine ⟨_, rfl, rfl, rfl, hidle, fun h => exec_powerOn_of_invalid rfl ?_⟩
  obtain ⟨hinvalid, -⟩ := hwriting h
  exact hinvalid

/-! ### The state after reset (log entry 9) -/

/-- A Vmax of 0 fails its check, so the store of a new unit is invalid (R146, R147). -/
theorem CalibrationStore.blank_invalid : CalibrationStore.blank.valid = false := by decide +kernel

/-- The new unit is what a reset makes of itself. -/
theorem State.reset_resetBlocks : State.reset.resetBlocks = State.reset := by
  have hloaded : loadedImage State.reset.survivingStore = defaultImage :=
    loadedImage_of_invalid CalibrationStore.blank_invalid
  have himages : ImageStore.reset (loadedImage State.reset.survivingStore) State.reset.survivingStore.valid =
      State.reset.images := by
    rw [hloaded]
    exact congrArg _ CalibrationStore.blank_invalid
  have hcomposer : (Quad.ofFn fun r => Composer.reset ((loadedImage State.reset.survivingStore).clearTorque r)) =
      State.reset.composer := by
    rw [hloaded]
    decide
  rw [State.resetBlocks, himages, hcomposer]
  rfl

/-- What every reset leaves true is true of the new unit. -/
theorem State.reset_of_resetBlocks {P : State → Prop} (h : ∀ s : State, P s.resetBlocks) : P State.reset :=
  State.reset_resetBlocks ▸ h State.reset

/-- No cause is present and no entry shows one. -/
theorem State.reset_causesOk : State.reset.causesOk := fun k c => by
  refine iff_of_false (fun ⟨_, hmem, _⟩ => List.not_mem_nil hmem) (Bool.eq_false_iff.mp ?_)
  cases k <;> simp [State.cause, State.reset, Acquisition.reset, GroupReference.reset, Monitor.reset, Composer.reset,
    Reaction.reset, Timer.reset]

/-- Settles O3: what every reset leaves true of the blocks it resets, for the reset of the new unit. -/
theorem resetMeetsEveryInvariant : Obligations.ResetMeetsEveryInvariant := by
  obtain ⟨⟨hqueue, hheld⟩, himages⟩ := State.reset_of_resetBlocks storesOk_kept.resetBlocks
  obtain ⟨hsteps, htorque⟩ := State.reset_of_resetBlocks (State.resetBlocks_bounded True)
  have hhistory := State.reset_of_resetBlocks (P := (State.recordsBehind · 0)) fun _ => State.recordsBehind.resetBlocks _
  have hfaults : State.reset.faultsOk := State.faultsOk_of_entries .nil nofun
  exact ⟨hqueue, hheld, himages, State.reset.historyOk_iff.mpr hhistory, hfaults, State.reset_causesOk,
    State.reset_of_resetBlocks State.resetBlocks_timerOk, nofun, State.reset_of_resetBlocks couplingOk_kept.resetBlocks,
    hsteps, htorque trivial, State.reset_of_resetBlocks State.resetBlocks_writtenOk,
    State.reset_of_resetBlocks State.telegramsOk.resetBlocks, State.reset_of_resetBlocks transferOk_kept.resetBlocks,
    State.reset_of_resetBlocks State.resetBlocks_idle⟩

end Sys2Proof.Machine
end

section
/-! The requests of a transfer at the head: OPEN_TRANSFER, TRANSFER_DATA and CLOSE_TRANSFER (R150 to R152). -/

namespace Sys2Proof.Machine

/-! ### Runs of field indices -/

theorem runHasMaintenance_iff (first last : Nat) :
    runHasMaintenance first last = true ↔ ∃ i, first ≤ i ∧ i ≤ last ∧ i < 254 ∧ isMaintenance i = true := by
  simp only [runHasMaintenance, List.any_eq_true, mem_maintenanceFields, Bool.and_eq_true, decide_eq_true_eq]
  exact exists_congr fun i => ⟨fun ⟨⟨hlt, hclass⟩, hfirst, hlast⟩ => ⟨hfirst, hlast, hlt, hclass⟩,
    fun ⟨hfirst, hlast, hlt, hclass⟩ => ⟨⟨hlt, hclass⟩, hfirst, hlast⟩⟩

/-- The values of a run written are read back along it, and every other field stands. -/
theorem writeRun_field : ∀ (ws : List Word) (img : Image) {first : Nat}, first + ws.length ≤ 254 → ∀ i : Nat,
    (writeRun img first ws).field i = if first ≤ i ∧ i < first + ws.length then ws.getD (i - first) 0 else img.field i
  | [], img, first, _, i => by
    have hempty : ¬ (first ≤ i ∧ i < first + ([] : List Word).length) := by simp
    rw [if_neg hempty, writeRun]
  | w :: ws, img, first, hroom, i => by
    rw [List.length_cons] at hroom ⊢
    rw [writeRun, writeRun_field ws _ (by omega), Image.field_put _ (by omega)]
    rcases Nat.lt_trichotomy i first with hbelow | rfl | habove
    · rw [if_neg (by omega), if_neg (by omega), if_neg (by omega)]
    · rw [if_neg (by omega), if_pos rfl, if_pos (by omega), Nat.sub_self, List.getD_cons_zero]
    · have hindex : i - first = (i - (first + 1)) + 1 := by omega
      rw [hindex, List.getD_cons_succ, if_neg (by omega : ¬ i = first)]
      exact if_congr (by omega) rfl rfl

/-! ### OPEN_TRANSFER and CLOSE_TRANSFER (R150, R152) -/

section
variable {s : State}

theorem exec_openTransfer_of_takesAtOnce (h : s.takesAtOnce) (area : RequestArea) :
    exec (.openTransfer area) s = .next ((s.asHead ⟨2, area⟩).performOpen ⟨2, area⟩) :=
  congrArg Host.Outcome.next (State.request_of_takesAtOnce h 2 area)

/-- A refused OPEN_TRANSFER leaves the context, whose index and count it carries (R150; log entry 14). -/
theorem exec_openTransfer_of_refused (h : s.takesAtOnce) (area : RequestArea) {o : Result}
    (houtcome : s.openOutcome area.index.toNat (area.data.getD 0 0).toNat = o) (hrefused : o ≠ .done) :
    exec (.openTransfer area) s = .next (s.answered ⟨2, area⟩ ⟨2, area.tag, o, area.index, area.count,
      [BitVec.ofInt 32 s.images.transfer.current, BitVec.ofNat 32 s.images.transfer.ignored, 0, 0, 0, 0, 0, 0]⟩) := by
  have htransfer : (s.asHead ⟨2, area⟩).openedTransfer area.index.toNat (area.data.getD 0 0).toNat = s.images.transfer :=
    if_neg (by rw [← houtcome] at hrefused; exact hrefused)
  have hhead : (s.asHead ⟨2, area⟩).openOutcome area.index.toNat (area.data.getD 0 0).toNat = o := houtcome
  rw [exec_openTransfer_of_takesAtOnce h, State.performOpen]
  dsimp only [Request.dataWord]
  rw [htransfer, hhead]
  rfl

theorem exec_openTransfer_of_done (h : s.takesAtOnce) (area : RequestArea)
    (houtcome : s.openOutcome area.index.toNat (area.data.getD 0 0).toNat = .done) :
    exec (.openTransfer area) s = .next ((s.withImages { s.images with
      transfer := ⟨true, area.index.toNat, (area.data.getD 0 0).toNat, (area.index.toNat : Int) - 1, 0⟩ }).answered
      ⟨2, area⟩ ⟨2, area.tag, .done, area.index, area.count,
        [BitVec.ofInt 32 ((area.index.toNat : Int) - 1), 0, 0, 0, 0, 0, 0, 0]⟩) := by
  have hhead : (s.asHead ⟨2, area⟩).openOutcome area.index.toNat (area.data.getD 0 0).toNat = .done := houtcome
  rw [exec_openTransfer_of_takesAtOnce h, State.performOpen]
  dsimp only [Request.dataWord]
  rw [State.openedTransfer, if_pos hhead, hhead]
  rfl

section
variable {first last : Nat}

theorem State.openOutcome_of_range (h : last < first ∨ 253 < last) : s.openOutcome first last = .refusedRange := if_pos h

theorem State.openOutcome_of_open (h : ¬ (last < first ∨ 253 < last)) (hopen : s.images.transfer.isOpen = true) :
    s.openOutcome first last = .refusedBusy := by
  rw [State.openOutcome, if_neg h, if_pos hopen]

/-- A run in the image finds a closed context, and is refused where it has a maintenance field and SETUP is inactive. -/
theorem State.openOutcome_of_closed (h : ¬ (last < first ∨ 253 < last)) (hclosed : s.images.transfer.isOpen = false) :
    s.openOutcome first last =
      if runHasMaintenance first last = true ∧ s.images.setupLine = false then .refusedProtected else .done := by
  simp [State.openOutcome, h, hclosed]

end

theorem exec_closeTransfer_of_takesAtOnce (h : s.takesAtOnce) (area : RequestArea) :
    exec (.closeTransfer area) s = .next ((s.asHead ⟨4, area⟩).performClose ⟨4, area⟩) :=
  congrArg Host.Outcome.next (State.request_of_takesAtOnce h 4 area)

end

/-- Settles O49: an OPEN_TRANSFER taken at once is judged by `State.openOutcome`, whose tests stand in R150's order, and a
CLOSE_TRANSFER by the context alone. -/
theorem transferOpensAndCloses : Obligations.TransferOpensAndCloses := by
  refine ⟨fun area s htakes => ⟨fun hrange => ?_, fun hrun hlast hopen => ?_, fun hrun hlast hclosed hprotected => ?_,
    fun hrun hlast hclosed hfree => ?_⟩, fun area s htakes => ⟨fun hopen => ?_, fun hclosed => ?_⟩⟩
  · exact exec_openTransfer_of_refused htakes area (State.openOutcome_of_range hrange) (by decide)
  · exact exec_openTransfer_of_refused htakes area (State.openOutcome_of_open (by omega) hopen) (by decide)
  · refine exec_openTransfer_of_refused htakes area ?_ (by decide)
    rw [State.openOutcome_of_closed (by omega) hclosed]
    exact if_pos (hprotected.imp_left (runHasMaintenance_iff _ _).mpr)
  · refine exec_openTransfer_of_done htakes area ?_
    rw [State.openOutcome_of_closed (by omega) hclosed]
    exact if_neg fun h => hfree (h.imp_left (runHasMaintenance_iff _ _).mp)
  · rw [exec_closeTransfer_of_takesAtOnce htakes]
    exact congrArg Host.Outcome.next (if_pos hopen)
  · rw [exec_closeTransfer_of_takesAtOnce htakes]
    exact congrArg Host.Outcome.next (if_neg (Bool.eq_false_iff.mp hclosed))

/-! ### TRANSFER_DATA (R151) -/

section
variable {s : State}

theorem exec_transferData_of_takesAtOnce (h : s.takesAtOnce) (area : RequestArea) :
    exec (.transferData area) s = .next ((s.withImages (s.transferred ⟨3, area⟩)).answered ⟨3, area⟩
      ⟨3, area.tag, s.dataOutcome area.count.toNat, area.index, area.count,
        [BitVec.ofInt 32 (s.transferred ⟨3, area⟩).transfer.current,
          BitVec.ofNat 32 (s.transferred ⟨3, area⟩).transfer.ignored,
          if (s.transferred ⟨3, area⟩).transfer.isOpen then 1 else 0, 0, 0, 0, 0, 0]⟩) :=
  congrArg Host.Outcome.next (State.request_of_takesAtOnce h 3 area)

section
variable {t : Transfer} (h : t.inBounds) (hopen : t.isOpen = true)
include h hopen

/-- The index that the next value lands on follows the current one. -/
theorem Transfer.next_eq : (t.next : Int) = t.current + 1 := by
  obtain ⟨-, -, hfirst, -⟩ := h hopen
  rw [Transfer.next]
  omega

/-- The values that land stay in the image. -/
theorem Transfer.landing_le (n : Nat) : t.current + (t.landing n : Int) ≤ 253 := by
  obtain ⟨-, hlast, -, hcurrent⟩ := h hopen
  have hlanding : t.landing n ≤ ((t.last : Int) - t.current).toNat := min_le_right _ _
  omega

theorem Transfer.landsOnMaintenance_iff (n : Nat) :
    t.landsOnMaintenance n = true ↔
      ∃ i : Nat, t.current < (i : Int) ∧ (i : Int) ≤ t.current + t.landing n ∧ isMaintenance i = true := by
  have hnext := Transfer.next_eq h hopen
  have hlast := Transfer.landing_le h hopen n
  simp only [Transfer.landsOnMaintenance, Bool.and_eq_true, decide_eq_true_eq, runHasMaintenance_iff]
  constructor
  · rintro ⟨hlands, i, hlow, hhigh, -, hclass⟩
    exact ⟨i, by omega, by omega, hclass⟩
  · rintro ⟨i, hlow, hhigh, hclass⟩
    exact ⟨by omega, i, by omega, by omega, by omega, hclass⟩

end

section
variable {n : Nat}

theorem State.dataOutcome_of_closed (hclosed : s.images.transfer.isOpen = false) : s.dataOutcome n = .refusedState :=
  if_pos (by rw [hclosed]; rfl)

theorem State.dataOutcome_of_range (hopen : s.images.transfer.isOpen = true) (hrange : n < 1 ∨ 8 < n) :
    s.dataOutcome n = .refusedRange := by
  rw [State.dataOutcome, if_neg (by simp [hopen]), if_pos hrange]

/-- A count in its range is refused where a value would land on a maintenance field and SETUP is inactive. -/
theorem State.dataOutcome_of_count (hopen : s.images.transfer.isOpen = true)
    (hcount : ¬ (n < 1 ∨ 8 < n)) :
    s.dataOutcome n =
      if s.images.transfer.landsOnMaintenance n = true ∧ s.images.setupLine = false then .refusedProtected else .done := by
  rw [State.dataOutcome, if_neg (by simp [hopen]), if_neg hcount]
  exact if_congr (by simp) rfl rfl

end

section
variable {q : Request}

theorem State.transferred_of_refused (hprotected : s.dataOutcome q.area.count.toNat ≠ .refusedProtected)
    (hdone : s.dataOutcome q.area.count.toNat ≠ .done) : s.transferred q = s.images := by
  unfold State.transferred
  dsimp only
  split
  · exact absurd ‹_› hdone
  · exact absurd ‹_› hprotected
  · rfl

theorem State.transferred_of_protected (h : s.dataOutcome q.area.count.toNat = .refusedProtected) :
    s.transferred q = { s.images with transfer := { s.images.transfer with isOpen := false } } := by
  rw [State.transferred]
  dsimp only
  rw [h]

theorem State.transferred_of_done (h : s.dataOutcome q.area.count.toNat = .done) :
    s.transferred q = { s.images with
      staging := writeRun s.images.staging s.images.transfer.next
        ((List.range (s.images.transfer.landing q.area.count.toNat)).map q.dataWord)
      transfer := s.images.transfer.advance q.area.count.toNat } := by
  rw [State.transferred]
  dsimp only
  rw [h]

/-- Staging holds the values from the next index on, as many as land (R151). -/
theorem State.transferred_staging (hok : s.transferOk) (h : s.dataOutcome q.area.count.toNat = .done) (i : Nat) :
    (s.transferred q).staging.field i =
      if s.images.transfer.current < (i : Int) ∧
          (i : Int) ≤ s.images.transfer.current + s.images.transfer.landing q.area.count.toNat
      then q.area.data.getD ((i : Int) - s.images.transfer.current - 1).toNat 0 else s.images.staging.field i := by
  have hopen := State.isOpen_of_dataOutcome_done h
  have hnext := Transfer.next_eq hok hopen
  have hlast := Transfer.landing_le hok hopen q.area.count.toNat
  rw [State.transferred_of_done h]
  dsimp only
  rw [writeRun_field _ _ (by simp only [List.length_map, List.length_range]; omega)]
  simp only [List.length_map, List.length_range]
  split
  case isTrue hrun =>
    have hindex : ((i : Int) - s.images.transfer.current - 1).toNat = i - s.images.transfer.next := by omega
    have hlands : i - s.images.transfer.next < s.images.transfer.landing q.area.count.toNat := by omega
    rw [if_pos (by omega), hindex]
    simp [List.getD_eq_getElem?_getD, hlands, Request.dataWord]
  case isFalse hrun => rw [if_neg (by omega)]

end

end

/-- Settles O50: a TRANSFER_DATA taken at once is judged by `State.dataOutcome`, whose tests stand in R151's order, and
leaves the images by its outcome alone. -/
theorem transferDataWritesStaging : Obligations.TransferDataWritesStaging := by
  intro area s htakes hok
  refine ⟨_, _, exec_transferData_of_takesAtOnce htakes area, fun hclosed => ?_, fun hopen hrange => ?_,
    fun hopen hlow hhigh hlands hline => ?_, fun hopen hlow hhigh hfree => ?_⟩
  · have houtcome : s.dataOutcome area.count.toNat = .refusedState := State.dataOutcome_of_closed hclosed
    exact ⟨houtcome, State.transferred_of_refused (by simp [houtcome]) (by simp [houtcome])⟩
  · have houtcome := State.dataOutcome_of_range hopen hrange
    exact ⟨houtcome, State.transferred_of_refused (by simp [houtcome]) (by simp [houtcome])⟩
  · have houtcome := (State.dataOutcome_of_count hopen (by omega)).trans
      (if_pos ⟨(Transfer.landsOnMaintenance_iff hok hopen _).mpr hlands, hline⟩)
    exact ⟨houtcome, State.transferred_of_protected houtcome⟩
  · have houtcome := (State.dataOutcome_of_count hopen (by omega)).trans
      (if_neg fun h => hfree (h.imp_left (Transfer.landsOnMaintenance_iff hok hopen _).mp))
    have himages := State.transferred_of_done (q := ⟨3, area⟩) houtcome
    refine ⟨houtcome, ?_, ?_, fun i _ => State.transferred_staging hok houtcome i⟩
    · rw [himages]
      rfl
    · rw [himages]

end Sys2Proof.Machine
end

section
/-! SET_LIVE_WINDOW, LIVE_WRITE and STORE_CALIBRATION at the head, and the end of a write (R145, R156 to R159). -/

namespace Sys2Proof.Machine

/-! ### SET_LIVE_WINDOW and LIVE_WRITE (R156, R157) -/

/-- A group record's live fields are those at offsets 0, 1, 5, 6, 7 and 9. -/
theorem isLive_iff (i : Nat) :
    isLive i = true ↔
      i = 8 ∨ i = 9 ∨
        ∃ (g : Chan) (o : Nat), (o = 0 ∨ o = 1 ∨ o = 5 ∨ o = 6 ∨ o = 7 ∨ o = 9) ∧ i = 70 + 10 * g.val + o := by
  simp only [isLive, Bool.or_eq_true, Bool.and_eq_true, beq_iff_eq, decide_eq_true_eq, or_assoc]
  refine or_congr_right (or_congr_right ⟨fun ⟨⟨hlow, hhigh⟩, ho⟩ => ?_, fun ⟨g, o, ho, hi⟩ => ?_⟩)
  · exact ⟨⟨(i - 70) / 10, by omega⟩, (i - 70) % 10, ho, by simp only; omega⟩
  · omega

section
variable {s : State}

theorem exec_setLiveWindow_of_takesAtOnce (h : s.takesAtOnce) (area : RequestArea) :
    exec (.setLiveWindow area) s = .next ((s.asHead ⟨7, area⟩).performWindow ⟨7, area⟩) :=
  congrArg Host.Outcome.next (State.request_of_takesAtOnce h 7 area)

theorem exec_liveWrite_of_takesAtOnce (h : s.takesAtOnce) (area : RequestArea) :
    exec (.liveWrite area) s = .next ((s.asHead ⟨6, area⟩).performLiveWrite ⟨6, area⟩) :=
  congrArg Host.Outcome.next (State.request_of_takesAtOnce h 6 area)

section
variable {q : Request}

theorem State.performWindow_of_inactive (hline : s.images.setupLine = false) :
    s.performWindow q = s.answer (respond q .refusedProtected []) := if_pos (by rw [hline]; rfl)

theorem State.performWindow_of_range (hline : s.images.setupLine = true)
    (hrange : 254 < (q.dataWord 0).toNat ∨ 254 < (q.dataWord 1).toNat) :
    s.performWindow q = s.answer (respond q .refusedRange []) := by
  rw [State.performWindow, if_neg (by simp [hline]), if_pos hrange]

theorem State.performWindow_of_bounds (hline : s.images.setupLine = true) (hlower : (q.dataWord 0).toNat ≤ 254)
    (hupper : (q.dataWord 1).toNat ≤ 254) :
    s.performWindow q =
      (s.withImages { s.images with liveLower := (q.dataWord 0).toNat, liveUpper := (q.dataWord 1).toNat }).answer
        (respond q .done [q.dataWord 0, q.dataWord 1]) := by
  rw [State.performWindow, if_neg (by simp [hline]), if_neg (by omega)]

theorem State.inLiveWindow_iff {f : Nat} : s.inLiveWindow f = true ↔ s.images.liveLower < f ∧ f < s.images.liveUpper := by
  simp [State.inLiveWindow]

/-- Outside the window and where the field is no live one the refusal is the same. -/
theorem State.performLiveWrite_of_protected (h : s.inLiveWindow q.area.index.toNat = false ∨ isLive q.area.index.toNat = false) :
    s.performLiveWrite q = s.answer (respond q .refusedProtected []) := by
  rw [State.performLiveWrite]
  dsimp only
  rcases h with h | h
  · rw [h]
    rfl
  · rw [h]
    exact ite_self _

section
variable (hinside : s.inLiveWindow q.area.index.toNat = true) (hlive : isLive q.area.index.toNat = true)
include hinside hlive

/-- A live write after which Active would fail a check is refused with the lowest field that fails. -/
theorem State.performLiveWrite_of_fails {i : Nat}
    (h : validate (applyLive s.images.active (s.images.pendingLive ++ [⟨q.area.index.toNat, q.dataWord 0⟩])) = some i) :
    s.performLiveWrite q = s.answer { respond q .refusedInvalid [] with index := BitVec.ofNat 16 i } := by
  rw [State.performLiveWrite]
  dsimp only
  rw [hinside, hlive, h]
  rfl

/-- One after which it would pass them all is appended. -/
theorem State.performLiveWrite_of_valid
    (h : validate (applyLive s.images.active (s.images.pendingLive ++ [⟨q.area.index.toNat, q.dataWord 0⟩])) = none) :
    s.performLiveWrite q = (s.withImages { s.images with
      pendingLive := s.images.pendingLive ++ [⟨q.area.index.toNat, q.dataWord 0⟩] }).answer
        (respond q .done [q.dataWord 0]) := by
  rw [State.performLiveWrite]
  dsimp only
  rw [hinside, hlive, h]
  rfl

end

end

end

/-- Settles O53: both requests taken at once are judged by the tests of their performance, which stand in the order of R156
and R157; of a live field the image to come is validated. -/
theorem liveWindowAndLiveWrite : Obligations.LiveWindowAndLiveWrite := by
  refine ⟨isLive_iff, fun area s htakes => ?window, fun area s htakes => ?write⟩
  case window =>
    rw [exec_setLiveWindow_of_takesAtOnce htakes]
    refine ⟨fun hline => ?_, fun hline hrange => ?_, fun hline hlower hupper => ?_⟩
    · exact congrArg Host.Outcome.next (State.performWindow_of_inactive hline)
    · exact congrArg Host.Outcome.next (State.performWindow_of_range hline hrange)
    · exact congrArg Host.Outcome.next (State.performWindow_of_bounds hline hlower hupper)
  case write =>
    rw [exec_liveWrite_of_takesAtOnce htakes]
    refine ⟨fun hprotected => congrArg Host.Outcome.next ?_, fun hinside hlive => ?_⟩
    · refine State.performLiveWrite_of_protected (hprotected.imp_left fun houtside => Bool.eq_false_iff.mpr fun h => ?_)
      exact houtside (State.inLiveWindow_iff.mp h)
    · have hwindow : (s.asHead ⟨6, area⟩).inLiveWindow area.index.toNat = true := State.inLiveWindow_iff.mpr hinside
      refine ⟨fun i hi hfails hlowest => congrArg Host.Outcome.next ?_, fun hpasses => congrArg Host.Outcome.next ?_⟩
      · exact State.performLiveWrite_of_fails hwindow hlive (validate_eq_some hi hfails hlowest)
      · exact State.performLiveWrite_of_valid hwindow hlive (validate_eq_none hpasses)

/-! ### STORE_CALIBRATION (R158) -/

section
variable {s : State}

theorem exec_storeCalibration_of_takesAtOnce (h : s.takesAtOnce) (area : RequestArea) :
    exec (.storeCalibration area) s = .next ((s.asHead ⟨9, area⟩).performStore ⟨9, area⟩) :=
  congrArg Host.Outcome.next (State.request_of_takesAtOnce h 9 area)

theorem exec_storeCalibration_of_refused (h : s.takesAtOnce) (area : RequestArea) {o : Result}
    (hrefusal : s.storeRefusal = some o) :
    exec (.storeCalibration area) s = .next (s.answered ⟨9, area⟩
      ⟨9, area.tag, o, area.index, area.count, [0, 0, 0, 0, 0, 0, 0, 0]⟩) := by
  have hhead : (s.asHead ⟨9, area⟩).storeRefusal = some o := hrefusal
  rw [exec_storeCalibration_of_takesAtOnce h, State.performStore, hhead]
  rfl

/-- The draw count after an accepted STORE_CALIBRATION: the count past the last value of its range is a free value (log
entry 8). -/
def State.drawsAfterStore (s : State) : Nat :=
  if s.images.calibrationValid && s.calibration.count == 0xFFFFFFFF then s.draws + 1 else s.draws

theorem exec_storeCalibration_of_accepted (h : s.takesAtOnce) (area : RequestArea) (hrefusal : s.storeRefusal = none) :
    exec (.storeCalibration area) s = .next (((s.asHead ⟨9, area⟩).withImages { s.images with
      writing := some ⟨maintenanceFields.map s.images.active.field, s.newStoreCount⟩
      calibrationValid := false }).withDraws s.drawsAfterStore) := by
  have hhead : (s.asHead ⟨9, area⟩).storeRefusal = none := hrefusal
  rw [exec_storeCalibration_of_takesAtOnce h, State.performStore, hhead]
  rfl

theorem State.storeRefusal_of_moving (h : s.allAtRest = false) : s.storeRefusal = some .refusedState :=
  if_pos (by rw [h]; rfl)

theorem State.storeRefusal_of_rest (h : s.allAtRest = true) :
    s.storeRefusal = if s.images.setupLine = false then some .refusedProtected else none := by
  simp [State.storeRefusal, h]

theorem State.newStoreCount_of_invalid (h : s.images.calibrationValid = false) : s.newStoreCount = 1 := by
  simp [State.newStoreCount, h]

theorem State.newStoreCount_of_valid (h : s.images.calibrationValid = true) (hlast : s.calibration.count ≠ 0xFFFFFFFF) :
    s.newStoreCount = s.calibration.count + 1 := by
  rw [State.newStoreCount, if_pos h, if_neg hlast]

theorem State.drawsAfterStore_of_counted (h : s.images.calibrationValid = false ∨ s.calibration.count ≠ 0xFFFFFFFF) :
    s.drawsAfterStore = s.draws := by
  refine if_neg fun hpast => ?_
  simp only [Bool.and_eq_true, beq_iff_eq] at hpast
  rcases h with h | h
  · simp [h] at hpast
  · exact h hpast.2

/-! ### The end of a write (R159) -/

theorem exec_calibrationWriteEnd_of_idle (h : s.images.writing = none) : exec .calibrationWriteEnd s = .next s := by
  refine congrArg Host.Outcome.next ?_
  rw [State.writeEnds, h]

theorem exec_calibrationWriteEnd_of_writing {w : CalibrationWrite} (halive : s.alive = true)
    (h : s.images.writing = some w) : exec .calibrationWriteEnd s = .next (s.endWrite w) := by
  refine congrArg Host.Outcome.next ?_
  rw [State.writeEnds, h]
  exact if_pos halive

/-- The store holds the values with their check word, and the head is answered. -/
theorem State.endWrite_of_head {q : Request} {rest : List Request} (h : s.service.queue = q :: rest) (w : CalibrationWrite) :
    s.endWrite w = ((s.withCalibration ⟨w.fields, w.count, calibrationCrc w.fields w.count⟩).withImages
      { s.images with writing := none, calibrationValid := true }).answer
        (respond q .done [w.count, (calibrationCrc w.fields w.count).setWidth 32]) := by
  have hqueue : ((s.withCalibration ⟨w.fields, w.count, calibrationCrc w.fields w.count⟩).withImages
      { s.images with writing := none, calibrationValid := true }).service.queue = q :: rest := h
  rw [State.endWrite, State.answerHead, hqueue]

end

/-- Settles O54: a STORE_CALIBRATION taken at once is judged by `State.storeRefusal`, whose tests stand in R158's order, and
an accepted one is answered at the end of its write. -/
theorem calibrationStoreWritten : Obligations.CalibrationStoreWritten := by
  refine ⟨fun area s htakes => ?judged, fun s hidle => exec_calibrationWriteEnd_of_idle hidle,
    fun s w q rest halive hwriting hqueue => ?ended⟩
  case judged =>
    simp only [← State.allAtRest_iff_state]
    refine ⟨fun hmoving => ?_, fun hrest hline => ?_, fun hrest hline => ?_⟩
    · exact exec_storeCalibration_of_refused htakes area (State.storeRefusal_of_moving (Bool.eq_false_iff.mpr hmoving))
    · exact exec_storeCalibration_of_refused htakes area ((State.storeRefusal_of_rest hrest).trans (if_pos hline))
    · have haccepted := (State.storeRefusal_of_rest hrest).trans (if_neg (by simp [hline]))
      exact ⟨_, _, exec_storeCalibration_of_accepted htakes area haccepted, State.newStoreCount_of_invalid,
        State.newStoreCount_of_valid, State.drawsAfterStore_of_counted⟩
  case ended =>
    rw [exec_calibrationWriteEnd_of_writing halive hwriting]
    exact congrArg Host.Outcome.next (State.endWrite_of_head hqueue w)

end Sys2Proof.Machine
end

section
/-! The requests whose performance is their answer: READ, DESCRIBE, RESTART, GROUP_CONTROL and an unknown kind at the head
(R162 to R164, R167, R169, R170). -/

namespace Sys2Proof.Machine

/-! ### The data words of a response (R162) -/

/-- A run of up to eight words stands at the beginning, with 0 after it. -/
theorem eightWords_run (word : Nat → Word) (count : Nat) {j : Nat} (hj : j < 8) :
    (eightWords ((List.range count).map word)).getD j 0 = if j < count then word j else 0 := by
  have hlength : ((List.range count).map word).length = count := by simp
  have hword : (eightWords ((List.range count).map word)).getD j 0 =
      ((List.range count).map word ++ List.replicate 8 0).getD j 0 := by
    simp only [eightWords, List.getD, List.getElem?_take_of_lt hj]
  rw [hword]
  split
  next h =>
    rw [List.getD_append _ _ _ _ (hlength.symm ▸ h)]
    simp [h]
  next h =>
    rw [List.getD_append_right _ _ _ _ (by omega), List.getD_replicate _ (by omega)]

theorem eightWords_nil_getD (j : Nat) : (eightWords []).getD j 0 = 0 :=
  List.getElem?_getD_replicate_default_eq (0 : Word) 8 j

theorem runInRange_iff (last index count : Nat) :
    runInRange last index count = true ↔ 1 ≤ count ∧ count ≤ 8 ∧ index + count - 1 ≤ last := by
  simp [runInRange, and_assoc]

/-- What the response to a request that reads carries: the request's fields, and the words asked for where they are in range
(R162, R164, R170). -/
def Response.carriesRun (p : Response) (q : Request) (inRange : Prop) (word : Nat → Word) : Prop :=
  p.kind = q.kind ∧ p.tag = q.area.tag ∧ p.index = q.area.index ∧ p.count = q.area.count ∧ p.data.length = 8 ∧
  (inRange → p.outcome = .done ∧
    ∀ j, j < 8 → p.data.getD j 0 = if j < q.area.count.toNat then word (q.area.index.toNat + j) else 0) ∧
  (¬ inRange → p.outcome = .refusedRange ∧ ∀ j, p.data.getD j 0 = 0)

section
variable {q : Request} {inRange : Prop} {word : Nat → Word}

theorem respond_done_carriesRun (h : inRange) :
    (respond q .done ((List.range q.area.count.toNat).map fun j => word (q.area.index.toNat + j))).carriesRun
      q inRange word :=
  ⟨rfl, rfl, rfl, rfl, eightWords_length _, fun _ => ⟨rfl, fun _ hj => eightWords_run _ _ hj⟩, fun hnot => absurd h hnot⟩

theorem respond_refusedRange_carriesRun (h : ¬ inRange) : (respond q .refusedRange []).carriesRun q inRange word :=
  ⟨rfl, rfl, rfl, rfl, eightWords_length _, fun hin => absurd hin h, fun _ => ⟨rfl, eightWords_nil_getD⟩⟩

end

/-! ### READ (R164) -/

theorem lastIndex_of_known {object : Nat} : 1 ≤ object → object ≤ 6 →
    lastIndex object =
      some (match object with | 1 => 253 | 2 => 253 | 3 => 231 | 4 => 287 | 5 => 7 | _ => 2047) := by
  intro hlow hhigh
  interval_cases object <;> rfl

theorem lastIndex_of_unknown {object : Nat} (h : ¬ (1 ≤ object ∧ object ≤ 6)) : lastIndex object = none := by
  rcases (by omega : object = 0 ∨ 6 < object) with rfl | hhigh
  · rfl
  · obtain ⟨n, rfl⟩ := Nat.exists_eq_add_of_le' hhigh
    rfl

theorem exec_read_of_takesAtOnce {s : State} (h : s.takesAtOnce) (area : RequestArea) :
    exec (.read area) s = .next (s.answered ⟨1, area⟩ ((s.asHead ⟨1, area⟩).readResponse ⟨1, area⟩)) :=
  congrArg Host.Outcome.next (State.request_of_takesAtOnce h 1 area)

/-- The tests of a READ in their order: object, then count and range (R164). -/
theorem State.readResponse_carriesRun (s : State) (q : Request) :
    (s.readResponse q).carriesRun q
      (∃ last, lastIndex q.area.object.toNat = some last ∧ runInRange last q.area.index.toNat q.area.count.toNat = true)
      (s.objectWord q.area.object.toNat) := by
  unfold State.readResponse
  cases hlast : lastIndex q.area.object.toNat with
  | none => exact respond_refusedRange_carriesRun fun ⟨_, hknown, _⟩ => nomatch hknown
  | some last =>
    dsimp only
    split
    next hrun => exact respond_done_carriesRun ⟨last, rfl, hrun⟩
    next hrun =>
      refine respond_refusedRange_carriesRun fun ⟨last', heq, hrun'⟩ => hrun ?_
      rwa [Option.some.inj heq]

/-- Settles O46: the response carries the words of the object in the state that has the READ at its head, by R164's tests. -/
theorem readReturnsObjectWords : Obligations.ReadReturnsObjectWords := by
  intro area s htakes object count last
  have hrange : (∃ l, lastIndex object = some l ∧ runInRange l area.index.toNat count = true) ↔
      1 ≤ object ∧ object ≤ 6 ∧ 1 ≤ count ∧ count ≤ 8 ∧ area.index.toNat + count - 1 ≤ last := by
    by_cases hobject : 1 ≤ object ∧ object ≤ 6
    · obtain ⟨hlow, hhigh⟩ := hobject
      have hlast : lastIndex object = some last := lastIndex_of_known hlow hhigh
      simp [hlast, runInRange_iff, hlow, hhigh]
    · rw [lastIndex_of_unknown hobject]
      exact iff_of_false (fun ⟨_, hknown, _⟩ => nomatch hknown) fun ⟨hlow, hhigh, _⟩ => hobject ⟨hlow, hhigh⟩
  rw [← hrange]
  exact ⟨_, exec_read_of_takesAtOnce htakes area, (s.asHead ⟨1, area⟩).readResponse_carriesRun ⟨1, area⟩⟩

/-! ### DESCRIBE and requests of an unknown kind (R162, R170) -/

theorem State.describeResponse_carriesRun (s : State) (q : Request) :
    (s.describeResponse q).carriesRun q (runInRange 11 q.area.index.toNat q.area.count.toNat = true)
      ((describeWords s).getD · 0) := by
  unfold State.describeResponse
  split
  next hrun => exact respond_done_carriesRun (word := ((describeWords s).getD · 0)) hrun
  next hrun => exact respond_refusedRange_carriesRun hrun

theorem exec_describe_of_takesAtOnce {s : State} (h : s.takesAtOnce) (area : RequestArea) :
    exec (.describe area) s = .next (s.answered ⟨11, area⟩ ((s.asHead ⟨11, area⟩).describeResponse ⟨11, area⟩)) :=
  congrArg Host.Outcome.next (State.request_of_takesAtOnce h 11 area)

/-- The kind codes outside 1 to 11 have one answer (R162). -/
theorem State.performKind_of_unknown (s : State) {q : Request} (h : isUnknownKind q.kind = true) :
    s.performKind q = s.answer (respond q .unknownKind []) := by
  have hcode : q.code = 0 ∨ 11 < q.code := by simpa [isUnknownKind, Request.code] using h
  rw [State.performKind]
  rcases hcode with hzero | hhigh
  · rw [hzero]
    rfl
  · obtain ⟨n, hn⟩ := Nat.exists_eq_add_of_le' hhigh
    rw [hn]
    rfl

/-- Settles O48: a DESCRIBE is judged by count and range alone, and an unknown kind falls past every kind performed. -/
theorem describeAndUnknownKindAnswered : Obligations.DescribeAndUnknownKindAnswered := by
  refine ⟨fun area s htakes => ?described, fun kind area s htakes hunknown => ?unknown⟩
  case described =>
    intro count description
    rw [← runInRange_iff]
    exact ⟨_, exec_describe_of_takesAtOnce htakes area, (s.asHead ⟨11, area⟩).describeResponse_carriesRun ⟨11, area⟩⟩
  case unknown =>
    exact congrArg Host.Outcome.next
      ((State.request_of_takesAtOnce htakes kind area).trans (State.performKind_of_unknown _ hunknown))

/-! ### RESTART and GROUP_CONTROL at the head (R163, R167, R169) -/

/-- The test of a GROUP_CONTROL at the head: a bit above 15 (R167). -/
theorem ushiftRight_sixteen_ne_zero_iff (w : Word) : w >>> 16 ≠ 0 ↔ ∃ i, 16 ≤ i ∧ w.getLsbD i = true := by
  have hshifted (i : Nat) : (w >>> 16).getLsbD i = w.getLsbD (16 + i) := BitVec.getLsbD_ushiftRight ..
  refine ⟨fun hne => by_contra fun hnone => hne (BitVec.eq_of_getLsbD_eq fun i _ => ?_), fun ⟨i, hi, hset⟩ hzero => ?_⟩
  · rw [hshifted]
    exact (Bool.eq_false_iff.mpr fun hset => hnone ⟨16 + i, by omega, hset⟩).trans BitVec.getLsbD_zero.symm
  · have hclear : (w >>> 16).getLsbD (i - 16) = false := hzero ▸ BitVec.getLsbD_zero
    rw [hshifted, Nat.add_sub_cancel' hi, hset] at hclear
    exact Bool.false_ne_true hclear.symm

theorem State.performControl_of_high {s : State} {q : Request} (h : ∃ i, 16 ≤ i ∧ (q.dataWord 0).getLsbD i = true) :
    s.performControl q = s.answer (respond q .refusedRange []) :=
  if_pos ((ushiftRight_sixteen_ne_zero_iff _).mpr h)

theorem State.performControl_of_low {s : State} {q : Request} (h : ∀ i, 16 ≤ i → (q.dataWord 0).getLsbD i = false) :
    s.performControl q = s :=
  if_neg fun hhigh => by
    obtain ⟨i, hi, hset⟩ := (ushiftRight_sixteen_ne_zero_iff _).mp hhigh
    exact Bool.false_ne_true ((h i hi).symm.trans hset)

/-- Settles O56: a RESTART is judged by the groups' states alone, a GROUP_CONTROL by the bits of its function word. -/
theorem restartAndGroupControlAtHead : Obligations.RestartAndGroupControlAtHead := by
  refine ⟨fun area s htakes => ?restart, fun area s htakes => ⟨fun hhigh => ?refused, fun hlow => ?waits⟩⟩
  case restart =>
    refine congrArg Host.Outcome.next ((State.request_of_takesAtOnce htakes 10 area).trans ?_)
    simp only [← State.allAtRest_iff_state]
    split
    next hrest => exact if_pos hrest
    next hmoving => exact if_neg hmoving
  case refused =>
    exact congrArg Host.Outcome.next
      ((State.request_of_takesAtOnce htakes 8 area).trans (State.performControl_of_high hhigh))
  case waits =>
    exact congrArg Host.Outcome.next
      ((State.request_of_takesAtOnce htakes 8 area).trans (State.performControl_of_low hlow))

/-! ### The reset after RESTART's DONE (R92, R146, R159, R169) -/

theorem State.restartDue_of_done {s : State} {q : Request} {rest : List Request} {p : Response}
    (hqueue : s.service.queue = q :: rest) (hcode : q.code = 10) (hready : s.service.ready = some p)
    (hdone : p.outcome = .done) : s.restartDue = true := by
  simp [State.restartDue, hqueue, hready, hcode, hdone]

theorem State.finishFeedback_of_restartDue {s : State} {f : SentFeedback} (hsending : s.cellPort.sending = some f)
    (hcarries : f.carries = true) (hdue : s.restartDue = true) :
    s.finishFeedback = (s.withCellPort { s.cellPort with sending := none }).restartReset := by
  rw [State.finishFeedback, hsending]
  dsimp only
  rw [if_pos hcarries, if_pos hdue]

/-- The reset that follows an accepted RESTART's DONE restores what a pulse on the RESET input does. -/
theorem State.restartReset_restores (s : State) :
    s.restartReset.blocksAtReset ∧ s.restartReset.imagesLoaded ∧ s.restartReset.linesSampled ∧
      s.storeKept s.restartReset :=
  ⟨s.resetBlocks_blocksAtReset.endReset, s.resetBlocks_imagesLoaded.endReset, s.resetBlocks_linesSampled,
    s.resetBlocks_storeKept.endReset⟩

/-- Settles O33: the DONE that has gone up makes the reset due, which restores the blocks, the images and the lines and leaves
the supply, the inputs and the clock. -/
theorem restartResetsAfterAnswer : Obligations.RestartResetsAfterAnswer := by
  intro s elapsed f q rest p halive hsending hcarries hqueue hcode hready hdone
  have hdue : (s.tick elapsed).restartDue = true := State.restartDue_of_done (s := s.tick elapsed) hqueue hcode hready hdone
  have hfinish := State.finishFeedback_of_restartDue (s := s.tick elapsed) hsending hcarries hdue
  obtain ⟨hblocks, hloaded, hlines, hkept⟩ :=
    ((s.tick elapsed).withCellPort { s.cellPort with sending := none }).restartReset_restores
  obtain ⟨hpowered, hheld, hestop, hsetup, hclock, -⟩ :=
    ((s.tick elapsed).withCellPort { s.cellPort with sending := none }).restartReset_frame
  exact ⟨_, (exec_feedbackSent_of_alive halive elapsed).trans (congrArg _ hfinish), hblocks, hloaded, hlines, hpowered, hheld,
    hestop, hsetup, hclock, hkept⟩

end Sys2Proof.Machine
end
